-- ==== Sys2Proof/Word.lean ====
section
/-! DEFINITION. The plain types the core's values have: channel levels, the byte in progress, and the two vectors that are decoded. -/

namespace Sys2Proof

/-- A level of a present channel: `true` is high (1), `false` is low (0) (R81). -/
abbrev Level := Bool

/-- The byte being assembled, and the byte of a record (R23, R92). -/
abbrev Byte := BitVec 8

/-- The 10-bit decode vector of a sample (R82). -/
abbrev DecodeVector := BitVec 10

/-- The 4-bit control vector of a transaction (R89). -/
abbrev ControlVector := BitVec 4

end Sys2Proof
end

