-- ==== Sys2Proof/Syntax.lean ====
section
/-! DEFINITION. The instructions: one constructor for each of the 20 rows of spec/opcode_table.json. The arguments of a constructor are the bits of its vector that the row leaves open (`x` in the encoding of R86 and R89), under the field names of R82 and R89, from the most significant bit down; so decoding drops no bit. -/

namespace Sys2Proof

/-- The rows of the operation table (R86) and of the control table (R89).
Fields: `V` variant, `P` strobe present, `ps` `pd` `pc` the previous strobe, data and clock level, `s` `d` `c` the current ones. -/
inductive Instr where
  /-- Row 1, `00x11xx0x1` (R101). -/
  | start3wCh (V pd pc d : Bool)
  /-- Row 2, `00x11xx0x0` (R102). -/
  | start3wCl (V pd pc d : Bool)
  /-- Row 3, `00xxx1xx01` (R103). -/
  | start2w (V P ps pc s : Bool)
  /-- Row 4, `00xxxxxxxx` (R104). -/
  | nopStart (V P ps pd pc s d c : Bool)
  /-- Row 5, `01x10xx1xx` (R106). -/
  | stopStb (V pd pc d c : Bool)
  /-- Row 6, `01xxx0xx11` (R107). -/
  | stopDat (V P ps pc s : Bool)
  /-- Row 7, `010xxx0xx1` (R143). -/
  | bit2w (P ps pd s d : Bool)
  /-- Row 8, `011xxx0xx1` (R145). -/
  | bit3w (P ps pd s d : Bool)
  /-- Row 9, `01xxxxxxxx` (R109). -/
  | nopData (V P ps pd pc s d c : Bool)
  /-- Row 10, `10xxxx1x00` (R164). -/
  | ack (V P ps pd s : Bool)
  /-- Row 11, `10xxxx1x10` (R165). -/
  | nack (V P ps pd s : Bool)
  /-- Row 12, `10xxxxxxxx` (R166). -/
  | nopAck (V P ps pd pc s d c : Bool)
  /-- Row 13, `11x10xx1xx` (R111). -/
  | stopStbFs (V pd pc d c : Bool)
  /-- Row 14, `11xxx0xx11` (R112). -/
  | stopDatFs (V P ps pc s : Bool)
  /-- Row 15, `11xxxxxxxx` (R113). -/
  | nopStop (V P ps pd pc s d c : Bool)
  /-- Row C1, `01xx` (R220). -/
  | reset (halted started : Bool)
  /-- Row C2, `1xxx` (R90); `op0` is `in_op[0]`. -/
  | reservedOp (op0 halted started : Bool)
  /-- Row C3, `001x` (R205). -/
  | sampleHalted (started : Bool)
  /-- Row C4, `0000` (R201). -/
  | decodeStart
  /-- Row C5, `0001` (R100). -/
  | sample
  deriving DecidableEq, Repr

/-- The row an instruction is, by its name in spec/opcode_table.json. -/
def Instr.mnemonic : Instr → String
  | .start3wCh _ _ _ _ => "START_3W_CH"
  | .start3wCl _ _ _ _ => "START_3W_CL"
  | .start2w _ _ _ _ _ => "START_2W"
  | .nopStart _ _ _ _ _ _ _ _ => "NOP_START"
  | .stopStb _ _ _ _ _ => "STOP_STB"
  | .stopDat _ _ _ _ _ => "STOP_DAT"
  | .bit2w _ _ _ _ _ => "BIT_2W"
  | .bit3w _ _ _ _ _ => "BIT_3W"
  | .nopData _ _ _ _ _ _ _ _ => "NOP_DATA"
  | .ack _ _ _ _ _ => "ACK"
  | .nack _ _ _ _ _ => "NACK"
  | .nopAck _ _ _ _ _ _ _ _ => "NOP_ACK"
  | .stopStbFs _ _ _ _ _ => "STOP_STB_FS"
  | .stopDatFs _ _ _ _ _ => "STOP_DAT_FS"
  | .nopStop _ _ _ _ _ _ _ _ => "NOP_STOP"
  | .reset _ _ => "RESET"
  | .reservedOp _ _ _ => "RESERVED_OP"
  | .sampleHalted _ => "SAMPLE_HALTED"
  | .decodeStart => "DECODE_START"
  | .sample => "SAMPLE"

/-- The 15 rows of the operation table, as against the 5 control rows. -/
def Instr.isOperation : Instr → Bool
  | .start3wCh _ _ _ _ | .start3wCl _ _ _ _ | .start2w _ _ _ _ _ | .nopStart _ _ _ _ _ _ _ _
  | .stopStb _ _ _ _ _ | .stopDat _ _ _ _ _ | .bit2w _ _ _ _ _ | .bit3w _ _ _ _ _
  | .nopData _ _ _ _ _ _ _ _ | .ack _ _ _ _ _ | .nack _ _ _ _ _ | .nopAck _ _ _ _ _ _ _ _
  | .stopStbFs _ _ _ _ _ | .stopDatFs _ _ _ _ _ | .nopStop _ _ _ _ _ _ _ _ => true
  | .reset _ _ | .reservedOp _ _ _ | .sampleHalted _ | .decodeStart | .sample => false

end Sys2Proof
end

