-- ==== Sys2Proof/WellFormed.lean ====
section
/-! DEFINITION. Which instructions the tables can select. A row is selected only where no earlier row of its group is (R86, R87): that is the one condition on the bits a row leaves open. -/

namespace Sys2Proof

/-- Strobe falling edge on a present strobe: the term rows 1 and 2 share (R83, R84). -/
abbrev strobeFalls (P ps s : Bool) : Bool := P && ps && !s

/-- Strobe rising edge on a present strobe: the term of rows 5 and 13. -/
abbrev strobeRises (P ps s : Bool) : Bool := P && !ps && s

/-- Clock high and data falling edge: the pattern of row 3. -/
abbrev dataFallsHigh (pd d c : Bool) : Bool := pd && !d && c

/-- Clock high and data rising edge: the pattern of rows 6 and 14. -/
abbrev dataRisesHigh (pd d c : Bool) : Bool := !pd && d && c

/-- Clock rising edge: the pattern of rows 7 and 8. -/
abbrev clockRises (pc c : Bool) : Bool := !pc && c

/-- Clock falling edge: the pattern of rows 10 and 11. -/
abbrev clockFalls (pc c : Bool) : Bool := pc && !c

/-- No earlier row of the group takes the vector (R86, R87). -/
def Instr.wellFormed : Instr → Bool
  | .start3wCh _ _ _ _ => true
  | .start3wCl _ _ _ _ => true
  | .start2w _ P ps _ s => !strobeFalls P ps s
  | .nopStart _ P ps pd _ s d c => !strobeFalls P ps s && !dataFallsHigh pd d c
  | .stopStb _ _ _ _ _ => true
  | .stopDat _ P ps _ s => !strobeRises P ps s
  | .bit2w P ps pd s d => !strobeRises P ps s && !dataRisesHigh pd d true
  | .bit3w P ps pd s d => !strobeRises P ps s && !dataRisesHigh pd d true
  | .nopData _ P ps pd pc s d c => !strobeRises P ps s && !dataRisesHigh pd d c && !clockRises pc c
  | .ack _ _ _ _ _ => true
  | .nack _ _ _ _ _ => true
  | .nopAck _ _ _ _ pc _ _ c => !clockFalls pc c
  | .stopStbFs _ _ _ _ _ => true
  | .stopDatFs _ P ps _ s => !strobeRises P ps s
  | .nopStop _ P ps pd _ s d c => !strobeRises P ps s && !dataRisesHigh pd d c
  | .reset _ _ => true
  | .reservedOp _ _ _ => true
  | .sampleHalted _ => true
  | .decodeStart => true
  | .sample => true

end Sys2Proof
end

