-- ==== Sys2Proof/Decode.lean ====
section
/-! DEFINITION. Decoding: the operation table of R86 and the control table of R89, each an ordered list of rows searched for the first match, and after them the encoder. -/

namespace Sys2Proof

/-- One row of a match/mask table: the vector `v` matches when `v AND mask = pattern`; `build` takes the open bits out of it. -/
structure TableRow (n : Nat) where
  mask : BitVec n
  pattern : BitVec n
  build : BitVec n → Instr

/-- `(v AND mask) = match` (R86, R89). -/
def TableRow.hits {n : Nat} (r : TableRow n) (v : BitVec n) : Bool := v &&& r.mask == r.pattern

/-- Bit `i` of a vector. -/
def bitOf {n : Nat} (v : BitVec n) (i : Nat) : Bool := v.getLsbD i

/-- The operation table of R86, in its order; bit numbers as in R82
(`V` 7, `P` 6, `ps` 5, `pd` 4, `pc` 3, `s` 2, `d` 1, `c` 0). -/
def operationTable : List (TableRow 10) :=
  [ ⟨0x365, 0x061, fun v => .start3wCh (bitOf v 7) (bitOf v 4) (bitOf v 3) (bitOf v 1)⟩,
    ⟨0x365, 0x060, fun v => .start3wCl (bitOf v 7) (bitOf v 4) (bitOf v 3) (bitOf v 1)⟩,
    ⟨0x313, 0x011, fun v => .start2w (bitOf v 7) (bitOf v 6) (bitOf v 5) (bitOf v 3) (bitOf v 2)⟩,
    ⟨0x300, 0x000, fun v => .nopStart (bitOf v 7) (bitOf v 6) (bitOf v 5) (bitOf v 4) (bitOf v 3) (bitOf v 2) (bitOf v 1) (bitOf v 0)⟩,
    ⟨0x364, 0x144, fun v => .stopStb (bitOf v 7) (bitOf v 4) (bitOf v 3) (bitOf v 1) (bitOf v 0)⟩,
    ⟨0x313, 0x103, fun v => .stopDat (bitOf v 7) (bitOf v 6) (bitOf v 5) (bitOf v 3) (bitOf v 2)⟩,
    ⟨0x389, 0x101, fun v => .bit2w (bitOf v 6) (bitOf v 5) (bitOf v 4) (bitOf v 2) (bitOf v 1)⟩,
    ⟨0x389, 0x181, fun v => .bit3w (bitOf v 6) (bitOf v 5) (bitOf v 4) (bitOf v 2) (bitOf v 1)⟩,
    ⟨0x300, 0x100, fun v => .nopData (bitOf v 7) (bitOf v 6) (bitOf v 5) (bitOf v 4) (bitOf v 3) (bitOf v 2) (bitOf v 1) (bitOf v 0)⟩,
    ⟨0x30B, 0x208, fun v => .ack (bitOf v 7) (bitOf v 6) (bitOf v 5) (bitOf v 4) (bitOf v 2)⟩,
    ⟨0x30B, 0x20A, fun v => .nack (bitOf v 7) (bitOf v 6) (bitOf v 5) (bitOf v 4) (bitOf v 2)⟩,
    ⟨0x300, 0x200, fun v => .nopAck (bitOf v 7) (bitOf v 6) (bitOf v 5) (bitOf v 4) (bitOf v 3) (bitOf v 2) (bitOf v 1) (bitOf v 0)⟩,
    ⟨0x364, 0x344, fun v => .stopStbFs (bitOf v 7) (bitOf v 4) (bitOf v 3) (bitOf v 1) (bitOf v 0)⟩,
    ⟨0x313, 0x303, fun v => .stopDatFs (bitOf v 7) (bitOf v 6) (bitOf v 5) (bitOf v 3) (bitOf v 2)⟩ ]

/-- Row 15, `11xxxxxxxx`: what is left when no earlier row of the table matches (R86). -/
def lastOperationRow : TableRow 10 :=
  ⟨0x300, 0x300, fun v => .nopStop (bitOf v 7) (bitOf v 6) (bitOf v 5) (bitOf v 4) (bitOf v 3) (bitOf v 2) (bitOf v 1) (bitOf v 0)⟩

/-- The control table of R89 in its order, its last row apart. -/
def controlTable : List (TableRow 4) :=
  [ ⟨0xC, 0x4, fun c => .reset (bitOf c 1) (bitOf c 0)⟩,
    ⟨0x8, 0x8, fun c => .reservedOp (bitOf c 2) (bitOf c 1) (bitOf c 0)⟩,
    ⟨0xE, 0x2, fun c => .sampleHalted (bitOf c 0)⟩,
    ⟨0xF, 0x0, fun _ => .decodeStart⟩ ]

/-- Row C5, `0001`: the one control vector no earlier row takes. -/
def lastControlRow : TableRow 4 := ⟨0xF, 0x1, fun _ => .sample⟩

/-- The first row of a table that matches, or the row after the table. -/
def firstRow {n : Nat} (rows : List (TableRow n)) (last : TableRow n) (v : BitVec n) : Instr :=
  ((rows.find? (·.hits v)).getD last).build v

/-- The operation a decode vector selects (R86). Every vector selects exactly one row. -/
def decodeVector (v : DecodeVector) : Instr := firstRow operationTable lastOperationRow v

/-- The control row a control vector selects (R89). -/
def decodeControl (c : ControlVector) : Instr := firstRow controlTable lastControlRow c

/-- Why a word is no vector of either table. -/
inductive DecodeError where
  /-- One byte holds a control vector in its low 4 bits, and a higher bit is set. -/
  | aboveControlVector
  /-- Two bytes hold a decode vector in their low 10 bits, and a higher bit is set. -/
  | aboveDecodeVector
  /-- The word has more than two bytes. -/
  | wordLength
  deriving DecidableEq, Repr

/-- The tables on stored words: a control vector fills one byte (format CTRL), a decode vector two (format SAMPLE). -/
def decodeWord (nbits w : Nat) : Except DecodeError Instr :=
  if nbits ≤ 8 then
    if w < 2 ^ 4 then .ok (decodeControl (BitVec.ofNat 4 w)) else .error .aboveControlVector
  else if nbits ≤ 16 then
    if w < 2 ^ 10 then .ok (decodeVector (BitVec.ofNat 10 w)) else .error .aboveDecodeVector
  else .error .wordLength

/-- The host's name for the decoder. -/
def decodeTableWord (nbits w : Nat) : Option Instr :=
  match decodeWord nbits w with
  | .ok i => some i
  | .error _ => none

/-- A bit at a place of a word. -/
def placed (b : Bool) (i : Nat) : Nat := b.toNat <<< i

/-- Bits 7 to 0 of a decode vector from its fields (R82). -/
def fieldBits (V P ps pd pc s d c : Bool) : Nat :=
  placed V 7 ||| placed P 6 ||| placed ps 5 ||| placed pd 4 ||| placed pc 3 ||| placed s 2 ||| placed d 1 ||| placed c 0

/-- Bits 9 and 8 of a decode vector, then its fields. -/
def vectorBits (state : Nat) (V P ps pd pc s d c : Bool) : Nat :=
  state <<< 8 ||| fieldBits V P ps pd pc s d c

/-- A control vector from its fields (R89). -/
def controlBits (op1 op0 halted started : Bool) : Nat :=
  placed op1 3 ||| placed op0 2 ||| placed halted 1 ||| placed started 0

/-- How many bits a row's word has, in whole bytes. -/
def Instr.nbits (i : Instr) : Nat := if i.isOperation then 16 else 8

/-- The word of an instruction, from the encoding column of R86 and R89. -/
def encode : Instr → Nat
  | .start3wCh V pd pc d => vectorBits 0 V true true pd pc false d true
  | .start3wCl V pd pc d => vectorBits 0 V true true pd pc false d false
  | .start2w V P ps pc s => vectorBits 0 V P ps true pc s false true
  | .nopStart V P ps pd pc s d c => vectorBits 0 V P ps pd pc s d c
  | .stopStb V pd pc d c => vectorBits 1 V true false pd pc true d c
  | .stopDat V P ps pc s => vectorBits 1 V P ps false pc s true true
  | .bit2w P ps pd s d => vectorBits 1 false P ps pd false s d true
  | .bit3w P ps pd s d => vectorBits 1 true P ps pd false s d true
  | .nopData V P ps pd pc s d c => vectorBits 1 V P ps pd pc s d c
  | .ack V P ps pd s => vectorBits 2 V P ps pd true s false false
  | .nack V P ps pd s => vectorBits 2 V P ps pd true s true false
  | .nopAck V P ps pd pc s d c => vectorBits 2 V P ps pd pc s d c
  | .stopStbFs V pd pc d c => vectorBits 3 V true false pd pc true d c
  | .stopDatFs V P ps pc s => vectorBits 3 V P ps false pc s true true
  | .nopStop V P ps pd pc s d c => vectorBits 3 V P ps pd pc s d c
  | .reset halted started => controlBits false true halted started
  | .reservedOp op0 halted started => controlBits true op0 halted started
  | .sampleHalted started => controlBits false false true started
  | .decodeStart => controlBits false false false false
  | .sample => controlBits false false false true

end Sys2Proof
end

