-- ==== Sys2Proof/Config.lean ====
section
/-! DEFINITION. The parameters of the core (00_scope.md R8). A state carries one value of this type and no step changes it, so a statement about every state is a statement about every choice of the parameters. -/

namespace Sys2Proof

/-- What the edge detector takes as the sample before the first one (parameter `INIT_PREV`, R83, R201). -/
inductive InitPrev where
  | sameAsSample0
  | allLow
  | allHigh
  deriving DecidableEq, Repr

/-- The parameters a model takes as arguments (R8). -/
structure Params where
  /-- `W_SN`: width of the sample index and of every sample position. -/
  wSn : Nat
  /-- `W_SR`: width of `cfg_samplerate`. -/
  wSr : Nat
  /-- `W_BC`: width of `byte_count`. -/
  wBc : Nat
  /-- `INIT_PREV`. -/
  initPrev : InitPrev
  /-- `BYTE_SS_RESET`: reset value of `byte_ss`, a `W_SN`-bit value. -/
  byteSsReset : Nat
  deriving DecidableEq, Repr

/-- The values the spec takes (00_scope.md section 5, table of parameters left to the implementation). -/
def Params.specTaken : Params :=
  { wSn := 64, wSr := 64, wBc := 32, initPrev := .sameAsSample0, byteSsReset := 0 }

/-- The ranges the parameters have: every width at least 1, and `BYTE_SS_RESET` fits its register
(92_eei_decisions.md, table of OPEN parameters). -/
abbrev Params.wf (p : Params) : Prop :=
  1 ≤ p.wSn ∧ 1 ≤ p.wSr ∧ 1 ≤ p.wBc ∧ p.byteSsReset < 2 ^ p.wSn

end Sys2Proof
end

