-- ==== Sys2Proof/Machine/State.lean ====
section
/-! DEFINITION. The state of the TMC bus decoder core as plain data: its registers (10_state.md), its parameters (R8), and the edge of the machine (input ports, transactions to come, records). -/

namespace Sys2Proof.Machine

/-- The FSM state, this block's program counter (R20). -/
inductive Fsm where
  | findStart
  | findData
  | findAck
  | findStop
  deriving DecidableEq, Repr

/-- The bus variant of the session (R21). -/
inductive Variant where
  | twoWire
  | threeWire
  deriving DecidableEq, Repr

/-- The levels of one sample, `{stb, dat, clk}` (R31). -/
structure Levels where
  stb : Level
  dat : Level
  clk : Level
  deriving DecidableEq, Repr

/-- A bit record `(v, ss, es)` (R24, R140). -/
structure BitRec where
  /-- The data level. -/
  v : Level
  /-- The sample at which the bit was taken. -/
  ss : Nat
  /-- The sample at which it ended. -/
  es : Nat
  deriving DecidableEq, Repr

/-- What an empty entry of the bit buffer, and an entry of a record's bit list from `nbits` up (R92), holds.
DESIGN CHOICE for the buffer (log 6): no rule reads an empty entry. Safe. -/
def BitRec.empty : BitRec := { v := false, ss := 0, es := 0 }

/-- The kinds of output record (R94). The reserved codes 0 and 9 to 15 have no value here. -/
inductive Kind where
  | start
  | stop
  | bit
  | command
  | data
  | ack
  | nack
  | bitrate
  deriving DecidableEq, Repr

/-- An output record with the fields of R92; a field not listed for a kind is 0. -/
structure Record where
  kind : Kind
  ss : Nat
  es : Nat
  val : Byte := 0
  nbits : BitVec 4 := 0
  blist : Vector BitRec 8 := Vector.replicate 8 BitRec.empty
  rate : Nat := 0
  deriving DecidableEq, Repr

/-- The levels on the input ports when a transaction is transferred (R10, R80): the transaction itself, and the
configuration inputs as they then stand. -/
structure Request where
  /-- `in_op`: 0 SAMPLE, 1 RESET, 2 and 3 reserved. -/
  op : BitVec 2
  clk : Level
  dat : Level
  stb : Level
  /-- `cfg_clk_present`. -/
  cfgClk : Bool
  /-- `cfg_dat_present`. -/
  cfgDat : Bool
  /-- `cfg_stb_present`. -/
  cfgStb : Bool
  /-- `cfg_samplerate` in Hz; 0 means not configured. -/
  cfgRate : Nat
  /-- `cfg_radix`: 0 Hex, 1 Dec, 2 Oct, 3 Bin. -/
  cfgRadix : BitVec 2
  deriving DecidableEq, Repr

/-- Input ports with every level 0. -/
def Request.low : Request :=
  { op := 0, clk := false, dat := false, stb := false, cfgClk := false, cfgDat := false, cfgStb := false, cfgRate := 0, cfgRadix := 0 }

/-- The machine's state. The registers carry the names and rules of 10_state.md. -/
structure State where
  /-- The parameters of R8, constant in a run (log 3). -/
  par : Params
  /-- `state` (R20). -/
  state : Fsm
  /-- `variant` (R21). -/
  variant : Variant
  /-- `bit_count` (R22): how many entries of `bits` are valid. -/
  bitCount : BitVec 4
  /-- `value` (R23). -/
  value : Byte
  /-- `bits[0..8]` (R24), oldest first. -/
  bits : Vector BitRec 9
  /-- `byte_count` (R25), `W_BC` bits, saturating. -/
  byteCount : Nat
  /-- `byte_ss` (R26). -/
  byteSs : Nat
  /-- `ack_ss` (R27). -/
  ackSs : Nat
  /-- `pdu_ss` (R28). -/
  pduSs : Nat
  /-- `pdu_bit_count` (R29). -/
  pduBitCount : Nat
  /-- `sn` (R30). -/
  sn : Nat
  /-- `prev` (R31): no value between RESET and the first sample. -/
  prev : Option Levels
  /-- `started` (R32). -/
  started : Bool
  /-- `status_err` (R33). -/
  statusErr : BitVec 2
  /-- `c_clk` (R34). -/
  cClk : Bool
  /-- `c_dat` (R34). -/
  cDat : Bool
  /-- `c_stb` (R34). -/
  cStb : Bool
  /-- `c_rate` (R34), `W_SR` bits. -/
  cRate : Nat
  /-- `c_radix` (R35). -/
  cRadix : BitVec 2
  /-- The input ports at the transaction being processed (R10, R80; log 1). -/
  port : Request
  /-- The transactions the host still presents, the next one first (R66; log 1). -/
  inq : List Request
  /-- The levels of `out_ready` in the coming cycles in which a record waits (R233; log 2). -/
  outReady : List Bool
  /-- The records emitted and not yet taken by the host, in order (R93, R231). -/
  waiting : List Record
  /-- The records the host has taken, in order. -/
  sent : List Record
  deriving DecidableEq, Repr

/-- The reasons a step can fault: none. The two fatal errors of the spec are states (`status_err`, R200, R205), and no
rule gives another fault, so this type has no constructor. -/
inductive Fault where
  deriving DecidableEq, Repr

/-- The reasons a step can be refused. -/
inductive Refusal where
  /-- Raised by no arm: every instruction of the table has its meaning. Safe. -/
  | notModelled (mnemonic : String)
  /-- Raised by RESERVED_OP: `in_op` 2 or 3 (R90: a model refuses such a transaction). Safe: the model stops. -/
  | reservedOp
  /-- Raised by SAMPLE when `sn` is already `2^W_SN - 1` (R100, R236: a model refuses it). Safe: the model stops. -/
  | sampleIndexOverflow
  /-- Raised by BIT_2W when `bit_count` is above 9, and by BIT_3W and a stop of a 3-wire session when it is above 8: values no
  run holds between transactions (R36 item 3, R91; log 7). Safe: the model stops. -/
  | bitCountReserved
  /-- Raised by no run: evaluating a sample selected a control row. `decodeVector` selects operation rows only
  (Laws/Decode.lean). Safe: the model would stop. -/
  | controlRowSelected
  deriving DecidableEq, Repr

/-- The machine right after reset, with nothing presented to it: every register at the value of R220, the parameters
at the values the spec takes (log 3), the edge of the machine empty (log 1). -/
def State.reset : State :=
  { par := Params.specTaken
    state := .findStart
    variant := .twoWire
    bitCount := 0
    value := 0
    bits := Vector.replicate 9 BitRec.empty
    byteCount := 0
    byteSs := Params.specTaken.byteSsReset
    ackSs := 0
    pduSs := 0
    pduBitCount := 0
    sn := 0
    prev := none
    started := false
    statusErr := 0
    cClk := false
    cDat := false
    cStb := false
    cRate := 0
    cRadix := 0
    port := Request.low
    inq := []
    outReady := []
    waiting := []
    sent := [] }

end Sys2Proof.Machine
end

