-- ==== Sys2Proof/Machine/Flags.lean ====
section
/-! DEFINITION. The status values of the core: the codes of its enumerated registers, the halted condition, the byte classifier, the saturating count, and the byte shift register's fold. -/

namespace Sys2Proof.Machine

/-- The code of an FSM state (R20). -/
def Fsm.code : Fsm → BitVec 2
  | .findStart => 0
  | .findData => 1
  | .findAck => 2
  | .findStop => 3

/-- The FSM state of a code (R20). -/
def Fsm.ofCode (c : BitVec 2) : Fsm :=
  if c = 0 then .findStart else if c = 1 then .findData else if c = 2 then .findAck else .findStop

/-- The bit of a variant: 0 is 2-wire, 1 is 3-wire (R21). -/
def Variant.bit : Variant → Bool
  | .twoWire => false
  | .threeWire => true

/-- The variant of a bit (R21). -/
def Variant.ofBit (b : Bool) : Variant := if b then .threeWire else .twoWire

/-- The code of a record kind (R94). -/
def Kind.code : Kind → BitVec 4
  | .start => 1
  | .stop => 2
  | .bit => 3
  | .command => 4
  | .data => 5
  | .ack => 6
  | .nack => 7
  | .bitrate => 8

/-- `ERR_MISSING_CHANNEL` (R33, R200). -/
def errMissingChannel : BitVec 2 := 1

/-- `ERR_NO_SAMPLERATE` (R33, R200). -/
def errNoSamplerate : BitVec 2 := 2

/-- `halted = (status_err != 0)` (R89, R205). -/
def State.halted (s : State) : Bool := s.statusErr != 0

/-- Started and not halted: the condition under which a SAMPLE runs the operation table (R82, R89). -/
def State.running (s : State) : Bool := s.started && !s.halted

/-- `min(v, 2^n - 1)` (00_scope.md section 6, `sat_N`). -/
def saturate (n v : Nat) : Nat := min v (2 ^ n - 1)

/-- The classifier: COMMAND when no byte of the session is complete yet, DATA otherwise (R160). -/
def State.byteKind (s : State) : Kind := if s.byteCount = 0 then .command else .data

/-- `((value >> 1) | (d << 7)) & 0xFF` (R142). -/
def foldBit (value : Byte) (d : Level) : Byte :=
  value >>> 1 ||| (BitVec.ofBool d).setWidth 8 <<< 7

end Sys2Proof.Machine
end

