-- ==== Sys2Proof/Machine/Operands.lean ====
section
/-! DEFINITION. What an operation reads: the current and previous sample, the decode and control vectors, the entries of the bit buffer, and the input ports. -/

namespace Sys2Proof.Machine

/-- `cur`: the levels of the presented sample. An absent strobe is taken as 0 (R81, R100). -/
def State.cur (s : State) : Levels :=
  { stb := s.cStb && s.port.stb, dat := s.port.dat, clk := s.port.clk }

/-- The levels the edge terms compare with (R83). DESIGN CHOICE (log 5): where `prev` holds no value, in a running core no run
reaches, there is no earlier sample and so no edge. -/
def State.before (s : State) : Levels := s.prev.getD s.cur

/-- The 10-bit decode vector `v` (R82). -/
def State.decodeVector (s : State) : DecodeVector :=
  BitVec.ofNat 10 (vectorBits s.state.code.toNat s.variant.bit s.cStb s.before.stb s.before.dat s.before.clk
    s.cur.stb s.cur.dat s.cur.clk)

/-- The 4-bit control vector `{in_op[1:0], halted, started}` (R89). -/
def State.controlVector (s : State) : ControlVector :=
  BitVec.ofNat 4 (controlBits (s.port.op.getLsbD 1) (s.port.op.getLsbD 0) s.halted s.started)

/-- Entry `i` of the bit buffer (R24). -/
def State.bitAt (s : State) (i : Nat) : BitRec := s.bits[i]?.getD BitRec.empty

/-- The valid entries of the bit buffer, oldest first (R24). -/
def State.validBits (s : State) : List BitRec := s.bits.toList.take s.bitCount.toNat

/-- The last sample index, `2^W_SN - 1` (R236). -/
def State.lastSample (s : State) : Nat := 2 ^ s.par.wSn - 1

/-- `cfg_samplerate` as its `W_SR` wires carry it (R10). DEDUCED (log 9): a number the port is too narrow for does not occur
on it, so only its low `W_SR` bits are taken. -/
def State.cfgSamplerate (s : State) : Nat := s.port.cfgRate % 2 ^ s.par.wSr

/-- `prev` for the first sample, from `INIT_PREV` (R201); `cStb` is already latched. -/
def State.initialPrev (s : State) : Levels :=
  match s.par.initPrev with
  | .sameAsSample0 => s.cur
  | .allLow => { stb := false, dat := false, clk := false }
  | .allHigh => { stb := s.cStb, dat := true, clk := true }

end Sys2Proof.Machine
end

