-- ==== Sys2Proof/Machine/Ops.lean ====
section
/-! DEFINITION. The operations the rows share: emitting records, the bit buffer's primitives, byte emission, the flush, the bitrate, the start and stop handlers, the fatal error and RESET. -/

namespace Sys2Proof.Machine

/-- The outcome of a step of this machine. -/
abbrev Outcome := Host.Outcome State Fault Refusal

/-- `emit`: append one record to the transaction's output list (R93). -/
def emit (r : Record) (s : State) : State := { s with waiting := s.waiting ++ [r] }

/-- Emit records in the order of the list (R9, R93). -/
def emitAll (rs : List Record) (s : State) : State := { s with waiting := s.waiting ++ rs }

/-- The BIT record of a bit record: its span, and its value in `val[0]` (R92, R94). -/
def bitRecord (b : BitRec) : Record :=
  { kind := .bit, ss := b.ss, es := b.es, val := (BitVec.ofBool b.v).setWidth 8 }

/-- The bit list of a byte record: the first `n` entries of the buffer, the rest zero (R92, R161). -/
def State.bitList (s : State) (n : Nat) : Vector BitRec 8 :=
  let e := fun i => if i < n then s.bitAt i else BitRec.empty
  #v[e 0, e 1, e 2, e 3, e 4, e 5, e 6, e 7]

/-- The record of a completed byte of `n` bits (R94, R160, R161). -/
def byteRecord (n : Nat) (s : State) : Record :=
  { kind := s.byteKind, ss := s.byteSs, es := s.sn, val := s.value, nbits := BitVec.ofNat 4 n, blist := s.bitList n }

/-- Fix the end sample of entry `i` of the buffer. -/
def closeEntry (i n : Nat) (s : State) : State :=
  { s with bits := s.bits.setIfInBounds i { s.bitAt i with es := n } }

/-- CLOSE_PREV: fix the pending bit's end (R141). -/
def closePrev (n : Nat) (s : State) : State :=
  if 1 ≤ s.bitCount.toNat then closeEntry (s.bitCount.toNat - 1) n s else s

/-- APPEND: push a new bit record; into an empty accumulator it also writes `byte_ss` (R141). -/
def append (d : Level) (n : Nat) (s : State) : State :=
  { s with
    byteSs := if s.bitCount = 0 then n else s.byteSs
    bits := s.bits.setIfInBounds s.bitCount.toNat { v := d, ss := n, es := n }
    bitCount := s.bitCount + 1 }

/-- FOLD: shift the bit into the byte, LSB first (R142, R61). -/
def fold (d : Level) (s : State) : State := { s with value := foldBit s.value d }

/-- One more call of the data handler (R29). -/
def countBit (s : State) : State := { s with pduBitCount := s.pduBitCount + 1 }

/-- Clear the byte in progress: `bit_count`, `value` and the buffer (R105, R108, R162, R163). -/
def clearAccumulator (s : State) : State :=
  { s with bitCount := 0, value := 0, bits := Vector.replicate 9 BitRec.empty }

/-- EMIT_BYTE(n) (R161). -/
def emitByte (n : Nat) (s : State) : State :=
  { emit (byteRecord n s) s with byteCount := saturate s.par.wBc (s.byteCount + 1) }

/-- FLUSH: close the pending bit, report every bit in arrears and the byte, and clear; nothing for an empty accumulator (R162). -/
def flush (s : State) : State :=
  if s.bitCount = 0 then s
  else
    let closed := closePrev s.sn s
    clearAccumulator (emitByte closed.bitCount.toNat (emitAll (closed.validBits.map bitRecord) closed))

/-- BYTE_COMPLETE_2W (R163). -/
def byteComplete2w (s : State) : State :=
  let emitted := emitByte 8 s
  { clearAccumulator { emitted with ackSs := (emitted.bitAt 7).es } with state := .findAck }

/-- `k`, the elapsed samples of the bitrate window (R180). In a state where `sn` is not past `pdu_ss`, which no stop of a run
meets (R181), this is 0 (log 14). -/
def State.elapsed (s : State) : Nat := s.sn - s.pduSs - 1

/-- The exact bitrate (R180). -/
def State.bitrate (s : State) : Nat := s.pduBitCount * s.cRate / s.elapsed

/-- TIMING_REPORT (R180). -/
def timingReport (s : State) : State :=
  if s.elapsed = 0 then s else emit { kind := .bitrate, ss := s.byteSs, es := s.sn, rate := s.bitrate } s

/-- START_HANDLER (R105). -/
def startHandler (s : State) : State :=
  let cleared := clearAccumulator { s with pduSs := s.sn, pduBitCount := 0, byteCount := 0 }
  { emit { kind := .start, ss := s.sn, es := s.sn } cleared with state := .findData }

/-- The stop handler after its flush: the bitrate, the STOP record, and the clearing (R108). -/
def finishStop (s : State) : State :=
  { clearAccumulator (emit { kind := .stop, ss := s.sn, es := s.sn } (timingReport s)) with state := .findStart }

/-- `bit_count` holds a value that FLUSH and BIT_3W have a meaning for: 0 to 8. EMIT_BYTE takes 1 to 8 bits (R161), and R22, R36 and
R91 keep the rest out of every run (log 7). -/
def State.bitCountLegal (s : State) : Bool := s.bitCount.toNat ≤ 8

/-- STOP_HANDLER (R108): a 3-wire session flushes its pending byte first. -/
def stopHandler (s : State) : Outcome :=
  match s.variant with
  | .twoWire => .next (finishStop s)
  | .threeWire => if s.bitCountLegal then .next (finishStop (flush s)) else .refused .bitCountReserved

/-- `emit(ACK or NACK, ack_ss, sn); state <- FIND_DATA` (R164, R165). -/
def answer (k : Kind) (s : State) : State :=
  { emit { kind := k, ss := s.ackSs, es := s.sn } s with state := .findData }

/-- `raise Fatal(code)`: taking an exception. It writes `status_err` and nothing else; the core is then halted (R205). -/
def raiseFatal (code : BitVec 2) (s : State) : State := { s with statusErr := code }

/-- RESET's writes: every register to its reset value (R220). It is also the only way back from a fatal error (R206). The
parameters, the ports and the records already emitted are no registers and stay. -/
def resetRegisters (s : State) : State :=
  { s with
    state := .findStart
    variant := .twoWire
    bitCount := 0
    value := 0
    bits := Vector.replicate 9 BitRec.empty
    byteCount := 0
    byteSs := s.par.byteSsReset
    ackSs := 0
    pduSs := 0
    pduBitCount := 0
    sn := 0
    prev := none
    started := false
    statusErr := 0
    cClk := false
    cDat := false
    cStb := false
    cRate := 0
    cRadix := 0 }

/-- Decode start latches the configuration inputs (R34, R35, R201). -/
def latchConfig (s : State) : State :=
  { s with
    started := true
    cClk := s.port.cfgClk
    cDat := s.port.cfgDat
    cStb := s.port.cfgStb
    cRate := s.cfgSamplerate
    cRadix := s.port.cfgRadix }

/-- `prev <- cur` (R100). -/
def latchPrev (cur : Levels) (s : State) : State := { s with prev := some cur }

/-- The sample index moves on by one (R30, R100). -/
def nextSample (s : State) : State := { s with sn := s.sn + 1 }

/-- The first sample after RESET has index 0 and takes `prev` from `INIT_PREV` (R201). -/
def firstSample (s : State) : State := { s with sn := 0, prev := some s.initialPrev }

/-- Go on from a next state; a stop stays as it is. -/
def mapNext (f : State → State) : Outcome → Outcome
  | .next s => .next (f s)
  | .fault r => .fault r
  | .refused r => .refused r

end Sys2Proof.Machine
end

