-- ==== Sys2Proof/Machine/Acknowledge.lean ====
section
/-! DEFINITION. The FIND_ACK group: the ACK/NACK sequencer (42_byte_ack_emitter.md section 2). -/

namespace Sys2Proof.Machine

/-- ACK (R164). -/
def execAck (s : State) : Outcome := .next (answer .ack s)

/-- NACK (R165). -/
def execNack (s : State) : Outcome := .next (answer .nack s)

/-- NOP_ACK (R166): nothing beyond R100. -/
def execNopAck (s : State) : Outcome := .next s

end Sys2Proof.Machine
end

