-- ==== Sys2Proof/Machine/Data.lean ====
section
/-! DEFINITION. The data handler: one bit per clock rising edge in FIND_DATA (41_bit_accumulator.md), and NOP_DATA. -/

namespace Sys2Proof.Machine

/-- The first part of BIT_2W: close the previous bit and report it while `bit_count`, before the increment, is at most 8 (R143). -/
def closeAndReport (s : State) : State :=
  if 1 ≤ s.bitCount.toNat then
    let closed := closePrev s.sn s
    if s.bitCount.toNat ≤ 8 then emit (bitRecord (closed.bitAt (s.bitCount.toNat - 1))) closed else closed
  else s

/-- The last part of BIT_2W: fold the bit, or complete the byte at the ninth edge (R143, R144). -/
def foldOrComplete (d : Level) (s : State) : State :=
  if s.bitCount.toNat ≤ 8 then fold d s else byteComplete2w s

/-- BIT_2W (R143). A `bit_count` of 10 to 15 is refused (R91). At 9 the rule still has its effect: the test before the increment
keeps back the BIT record, APPEND's entry lies past the buffer and is dropped, and the byte completes (log 7). -/
def execBit2w (d : Level) (s : State) : Outcome :=
  if s.bitCount.toNat ≤ 9 then
    .next (foldOrComplete d (append d s.sn (closeAndReport (countBit s))))
  else .refused .bitCountReserved

/-- The first part of BIT_3W: a full byte is flushed before the new bit is taken (R145). -/
def flushIfFull (s : State) : State := if s.bitCount = 8 then flush s else s

/-- BIT_3W (R145). Above 8 the new bit has no entry of its own in the buffer, and the row is refused (log 7). -/
def execBit3w (d : Level) (s : State) : Outcome :=
  if s.bitCountLegal then
    .next (fold d (append d s.sn (closePrev s.sn (flushIfFull (countBit s)))))
  else .refused .bitCountReserved

/-- NOP_DATA (R109): nothing beyond R100. -/
def execNopData (s : State) : Outcome := .next s

end Sys2Proof.Machine
end

