-- ==== Sys2Proof/Machine/Start.lean ====
section
/-! DEFINITION. The operations of the FIND_START group (40_condition_detector.md section 2). Each is the rule of its row; the sample index and `prev` are moved on by the SAMPLE that selects it (R100). -/

namespace Sys2Proof.Machine

/-- START_3W_CH (R101). -/
def execStart3wCh (s : State) : Outcome := .next (startHandler { s with variant := .threeWire })

/-- START_3W_CL (R102): the same effect as R101. -/
def execStart3wCl (s : State) : Outcome := .next (startHandler { s with variant := .threeWire })

/-- START_2W (R103). -/
def execStart2w (s : State) : Outcome := .next (startHandler { s with variant := .twoWire })

/-- NOP_START (R104): nothing beyond R100. -/
def execNopStart (s : State) : Outcome := .next s

end Sys2Proof.Machine
end

