-- ==== Sys2Proof/Machine/Stop.lean ====
section
/-! DEFINITION. The stop operations of FIND_DATA and the FIND_STOP group (40_condition_detector.md sections 3 and 5). -/

namespace Sys2Proof.Machine

/-- STOP_STB (R106). -/
def execStopStb (s : State) : Outcome := stopHandler s

/-- STOP_DAT (R107). -/
def execStopDat (s : State) : Outcome := stopHandler s

/-- STOP_STB_FS (R111). -/
def execStopStbFs (s : State) : Outcome := stopHandler s

/-- STOP_DAT_FS (R112). -/
def execStopDatFs (s : State) : Outcome := stopHandler s

/-- NOP_STOP (R113): nothing beyond R100. -/
def execNopStop (s : State) : Outcome := .next s

end Sys2Proof.Machine
end

