-- ==== Sys2Proof/Machine/Control.lean ====
section
/-! DEFINITION. The control rows: the per-sample dispatcher, decode start, the halted core, the reserved codes and RESET (R89, R100, R201, R205, R220). -/

namespace Sys2Proof.Machine

/-- "perform the rule of row" (R100): the operation a sample selected. A control row is never selected by a decode vector
(Laws/Decode.lean) and is refused here. -/
def performRow (i : Instr) (s : State) : Outcome :=
  match i with
  | .start3wCh _ _ _ _ => execStart3wCh s
  | .start3wCl _ _ _ _ => execStart3wCl s
  | .start2w _ _ _ _ _ => execStart2w s
  | .nopStart _ _ _ _ _ _ _ _ => execNopStart s
  | .stopStb _ _ _ _ _ => execStopStb s
  | .stopDat _ _ _ _ _ => execStopDat s
  | .bit2w _ _ _ _ d => execBit2w d s
  | .bit3w _ _ _ _ d => execBit3w d s
  | .nopData _ _ _ _ _ _ _ _ => execNopData s
  | .ack _ _ _ _ _ => execAck s
  | .nack _ _ _ _ _ => execNack s
  | .nopAck _ _ _ _ _ _ _ _ => execNopAck s
  | .stopStbFs _ _ _ _ _ => execStopStbFs s
  | .stopDatFs _ _ _ _ _ => execStopDatFs s
  | .nopStop _ _ _ _ _ _ _ _ => execNopStop s
  | .reset _ _ => .refused .controlRowSelected
  | .reservedOp _ _ _ => .refused .controlRowSelected
  | .sampleHalted _ => .refused .controlRowSelected
  | .decodeStart => .refused .controlRowSelected
  | .sample => .refused .controlRowSelected

/-- EVAL: match the sample against the patterns of the state held before it, perform the row's rule, and then
`prev <- cur` (R100). -/
def eval (s : State) : Outcome := mapNext (latchPrev s.cur) (performRow (decodeVector s.decodeVector) s)

/-- SAMPLE while running (R100, R236). -/
def execSample (s : State) : Outcome :=
  if s.sn < s.lastSample then eval (nextSample s) else .refused .sampleIndexOverflow

/-- The checks of decode start on the latched configuration, the channels first (R201 to R204), and then sample 0. -/
def checkAndRun (s : State) : Outcome :=
  if s.cClk = false ∨ s.cDat = false then .next (raiseFatal errMissingChannel s)
  else if s.cRate = 0 then .next (raiseFatal errNoSamplerate s)
  else eval (firstSample s)

/-- DECODE_START, the first SAMPLE after RESET (R201). -/
def execDecodeStart (s : State) : Outcome := checkAndRun (latchConfig s)

/-- SAMPLE_HALTED: accepted and ignored (R205). -/
def execSampleHalted (s : State) : Outcome := .next s

/-- RESERVED_OP: a model refuses it (R90). -/
def execReservedOp (_ : State) : Outcome := .refused .reservedOp

/-- RESET (R220). -/
def execReset (s : State) : Outcome := .next (resetRegisters s)

end Sys2Proof.Machine
end

