-- ==== Sys2Proof/Machine/Dispatch.lean ====
section
/-! DEFINITION. What each instruction does: one arm per row of spec/opcode_table.json. -/

namespace Sys2Proof.Machine

def exec (i : Instr) (s : State) : Host.Outcome State Fault Refusal :=
  match i with
  | .start3wCh _ _ _ _ => Sys2Proof.Machine.execStart3wCh s
  | .start3wCl _ _ _ _ => Sys2Proof.Machine.execStart3wCl s
  | .start2w _ _ _ _ _ => Sys2Proof.Machine.execStart2w s
  | .nopStart _ _ _ _ _ _ _ _ => Sys2Proof.Machine.execNopStart s
  | .stopStb _ _ _ _ _ => Sys2Proof.Machine.execStopStb s
  | .stopDat _ _ _ _ _ => Sys2Proof.Machine.execStopDat s
  | .bit2w _ _ _ _ d => Sys2Proof.Machine.execBit2w d s
  | .bit3w _ _ _ _ d => Sys2Proof.Machine.execBit3w d s
  | .nopData _ _ _ _ _ _ _ _ => Sys2Proof.Machine.execNopData s
  | .ack _ _ _ _ _ => Sys2Proof.Machine.execAck s
  | .nack _ _ _ _ _ => Sys2Proof.Machine.execNack s
  | .nopAck _ _ _ _ _ _ _ _ => Sys2Proof.Machine.execNopAck s
  | .stopStbFs _ _ _ _ _ => Sys2Proof.Machine.execStopStbFs s
  | .stopDatFs _ _ _ _ _ => Sys2Proof.Machine.execStopDatFs s
  | .nopStop _ _ _ _ _ _ _ _ => Sys2Proof.Machine.execNopStop s
  | .reset _ _ => Sys2Proof.Machine.execReset s
  | .reservedOp _ _ _ => Sys2Proof.Machine.execReservedOp s
  | .sampleHalted _ => Sys2Proof.Machine.execSampleHalted s
  | .decodeStart => Sys2Proof.Machine.execDecodeStart s
  | .sample => Sys2Proof.Machine.execSample s

end Sys2Proof.Machine
end

