-- ==== Sys2Proof/Machine/Ports.lean ====
section
/-! DEFINITION. The ports of the core (R10) and the handshake on them (R80, R93, R231, R233): which transaction is transferred, how records leave, and how the host's tools place a vector as the next transaction. -/

namespace Sys2Proof.Machine

/-- `in_valid`: the host presents a transaction. -/
def State.inValid (s : State) : Bool := !s.inq.isEmpty

/-- `in_ready`: 1 only when no record of an earlier transaction is still waiting (R231). -/
def State.inReady (s : State) : Bool := s.waiting.isEmpty

/-- `out_valid`: a record waits. -/
def State.outValid (s : State) : Bool := !s.waiting.isEmpty

/-- `out_rec`: the record that leaves next (R93). -/
def State.outRec (s : State) : Option Record := s.waiting.head?

/-- `status_err`, readable at any time (R33, R208). -/
def State.statusErrPort (s : State) : BitVec 2 := s.statusErr

/-- `out_radix`: the latched radix (R35). -/
def State.outRadix (s : State) : BitVec 2 := s.cRadix

/-- `out_ready` in this cycle; a host that says nothing more is ready (DESIGN CHOICE, log 2). -/
def State.outReadyNow (s : State) : Bool := s.outReady.headD true

/-- The observation of the run so far: the records of its transactions in order (R7). -/
def State.observed (s : State) : List Record := s.sent ++ s.waiting

/-- A cycle in which a record waits: it leaves when `out_ready` is 1, and nothing happens when it is 0 (R93, R231, R233). -/
def drainCycle (s : State) : State :=
  if s.outReadyNow then
    { s with outReady := s.outReady.tail, sent := s.sent ++ s.waiting.take 1, waiting := s.waiting.tail }
  else { s with outReady := s.outReady.tail }

/-- A transaction is transferred: its levels stand on the input ports while it is processed (R80, R233). -/
def accept (q : Request) (rest : List Request) (s : State) : State := { s with port := q, inq := rest }

/-- The control row a transferred transaction selects (R89). -/
def State.selected (s : State) : Instr := decodeControl s.controlVector

/-- Input ports of a host that has done its duties before the first sample (R223): clock and data present, no strobe, a
sample rate of 1 MHz (the setting of 95_test_vectors.md), every level low. Used only to place a vector (log 12). -/
def Request.bootDuties : Request := { Request.low with cfgClk := true, cfgDat := true, cfgRate := 1000000 }

/-- The host has taken every waiting record, so that the next transaction can be transferred. -/
def drained (s : State) : State := { s with sent := s.sent ++ s.waiting, waiting := [] }

/-- The state in which the next transaction has the control vector `c`. -/
def placeControl (c : ControlVector) (s : State) : State :=
  { drained s with
    inq := { Request.bootDuties with op := c.extractLsb' 2 2 } :: s.inq
    started := bitOf c 0
    statusErr := if bitOf c 1 then (if s.statusErr = 0 then errMissingChannel else s.statusErr) else 0 }

/-- The state in which the next transaction is a SAMPLE with the decode vector `v`. -/
def placeVector (v : DecodeVector) (s : State) : State :=
  { drained s with
    inq := { Request.bootDuties with clk := bitOf v 0, dat := bitOf v 1, stb := bitOf v 2 } :: s.inq
    started := true
    statusErr := 0
    state := Fsm.ofCode (v.extractLsb' 8 2)
    variant := Variant.ofBit (bitOf v 7)
    cStb := bitOf v 6
    prev := some { stb := bitOf v 5, dat := bitOf v 4, clk := bitOf v 3 } }

end Sys2Proof.Machine
end

