-- ==== Sys2Proof/Machine/Step.lean ====
section
/-! DEFINITION. One step: a waiting record leaves, or the next transaction is transferred and performed whole, or, at the end of input, nothing happens. -/

namespace Sys2Proof.Machine

/-- One step (R6, R7, R231, R235). While a record waits no transaction is accepted; otherwise the next transaction is
transferred, its control row decoded (R89) and performed. With nothing presented the core keeps its state (R235). -/
def step (s : State) : Host.Outcome State Fault Refusal :=
  match s.waiting, s.inq with
  | _ :: _, _ => .next (drainCycle s)
  | [], [] => .next s
  | [], q :: rest => exec (accept q rest s).selected (accept q rest s)

/-- The state in which the very next step runs the instruction of a table word: a control vector is the next transaction
(one byte), or a running core's next SAMPLE has the decode vector (two bytes). Log 12. -/
def State.withFetchWord (s : State) (nbits w : Nat) : State :=
  if nbits ≤ 8 then placeControl (BitVec.ofNat 4 w) s else placeVector (BitVec.ofNat 10 w) s

end Sys2Proof.Machine
end

