-- ==== Sys2Proof/Machine/FanOut.lean ====
section
/-! DEFINITION. The host's view of the record stream (R95): the items each record becomes on the host's four channels. No step reads this. Label texts and the radix text of a byte are out of scope (00_scope.md section 3), so an annotation carries the value and the radix, not the text. -/

namespace Sys2Proof.Machine

/-- The payload of a structured record. -/
inductive Payload where
  | none
  | byte (val : Byte)
  | bits (blist : List BitRec)
  deriving DecidableEq, Repr

/-- One item on one of the host's four channels (R95). -/
inductive HostItem where
  /-- A structured record. The BITS record has the payload `bits` and the kind of its byte. -/
  | structured (kind : Kind) (ss es : Nat) (payload : Payload)
  /-- An annotation: its value if it shows one, and the radix the value is shown in. -/
  | annotation (kind : Kind) (ss es : Nat) (value : Option Byte) (radix : BitVec 2)
  /-- A raw byte on the binary channel. -/
  | binary (ss es : Nat) (val : Byte)
  /-- The metric "Bitrate". -/
  | metric (ss es : Nat) (rate : Nat)
  deriving DecidableEq, Repr

/-- A structured record without payload and an annotation. -/
def plainItems (radix : BitVec 2) (r : Record) : List HostItem :=
  [.structured r.kind r.ss r.es .none, .annotation r.kind r.ss r.es none radix]

/-- BITS, the byte, the raw byte, the annotation, in this order. -/
def byteItems (radix : BitVec 2) (r : Record) : List HostItem :=
  [ .structured r.kind r.ss r.es (.bits (r.blist.toList.take r.nbits.toNat)), .structured r.kind r.ss r.es (.byte r.val),
    .binary r.ss r.es r.val, .annotation r.kind r.ss r.es (some r.val) radix ]

/-- The items of one record in a given radix (R95). DEDUCED (log 18): an annotation carries its value and the radix instead of
text, and the BITS record carries the kind of its byte. -/
def fanOut (radix : BitVec 2) (r : Record) : List HostItem :=
  match r.kind with
  | .start => plainItems radix r
  | .stop => plainItems radix r
  | .bit => [.annotation .bit r.ss r.es (some r.val) radix]
  | .command => byteItems radix r
  | .data => byteItems radix r
  | .ack => plainItems radix r
  | .nack => plainItems radix r
  | .bitrate => [.metric r.ss r.es r.rate]

/-- The host's channels after a run: the observation, every record of it in the radix that `out_radix` shows in this state.
DESIGN CHOICE (log 20): R35 and R95 do not say at which moment the host takes the radix for a record, so a record emitted before
a RESET or before a later decode start is shown in the radix held now, not in the one held when it was emitted or left. -/
def State.hostItems (s : State) : List HostItem := s.observed.flatMap (fanOut s.outRadix)

end Sys2Proof.Machine
end

