-- ==== Sys2Proof/Safety.lean ====
section
/-! DEFINITION. What claims about the core speak of: the invariants of R36 in a form every step keeps, the widths of the registers and record fields, the patterns of R85, and the runs of the data handler over a list of clock edges. -/

namespace Sys2Proof.Machine

/-- The invariants of R36 between transactions, with what is needed for every step to keep them. -/
structure State.Sound (s : State) : Prop where
  /-- R36 item 1. -/
  notFindStop : s.state ≠ .findStop
  /-- R36 item 2. -/
  ackPhase : s.state = .findAck → s.variant = .twoWire ∧ s.bitCount = 0
  /-- R36 item 3. -/
  countAtMostEight : s.bitCount.toNat ≤ 8
  /-- R36 item 4, the closed bits. -/
  tiled : ∀ i < s.bitCount.toNat - 1, (s.bitAt i).es = (s.bitAt (i + 1)).ss
  /-- R36 item 4, the pending bit. -/
  pendingOpen : 1 ≤ s.bitCount.toNat → (s.bitAt (s.bitCount.toNat - 1)).es = (s.bitAt (s.bitCount.toNat - 1)).ss
  /-- R36 item 5, the byte's start sample. -/
  byteStart : 1 ≤ s.bitCount.toNat → s.byteSs = (s.bitAt 0).ss
  /-- R36 item 5, the bits in the shift register. -/
  valueHigh : ∀ i < s.bitCount.toNat, s.value.getLsbD (8 - s.bitCount.toNat + i) = (s.bitAt i).v
  /-- The rest of the shift register is zero (R63). -/
  valueLow : ∀ i < 8 - s.bitCount.toNat, s.value.getLsbD i = false
  /-- R36 item 6: once a bit has been taken since the START, `pdu_ss <= byte_ss`. -/
  startBeforeByte : 1 ≤ s.pduBitCount → s.pduSs ≤ s.byteSs
  /-- The bits held were counted (R29). -/
  bitsCounted : s.bitCount.toNat ≤ s.pduBitCount
  /-- The START lies at or before the current sample (R181). -/
  startPast : s.pduSs ≤ s.sn
  /-- Before decode start the registers stand as RESET left them (R220). -/
  beforeStart : s.started = false →
    s.statusErr = 0 ∧ s.state = .findStart ∧ s.bitCount = 0 ∧ s.pduBitCount = 0 ∧ s.pduSs = 0 ∧ s.sn = 0
  /-- A running core has its mandatory channels, a sample rate and an earlier sample (R81, R202, R203, R31). -/
  runningReady : s.running = true → s.cClk = true ∧ s.cDat = true ∧ s.cRate ≠ 0 ∧ s.prev.isSome = true

/-- A bit record whose positions are at most `n`. -/
abbrev BitRec.within (n : Nat) (b : BitRec) : Prop := b.ss ≤ n ∧ b.es ≤ n

/-- A record whose fields fit the widths of R92 under the parameters `p`. -/
structure Record.Fits (p : Params) (r : Record) : Prop where
  span : r.ss < 2 ^ p.wSn ∧ r.es < 2 ^ p.wSn
  entries : ∀ b ∈ r.blist.toList, b.within (2 ^ p.wSn - 1)
  rate : r.rate < 2 ^ (p.wSn + p.wSr)

/-- Every natural of the state fits the register the spec gives it (R8, the widths of 10_state.md section 1), with what is
needed for every step to keep this. -/
structure State.Fits (s : State) : Prop where
  params : s.par.wf
  sn : s.sn < 2 ^ s.par.wSn
  pduSs : s.pduSs ≤ s.sn
  ackSs : s.ackSs ≤ s.sn
  pduBitCount : s.pduBitCount ≤ s.sn
  byteSs : s.byteSs < 2 ^ s.par.wSn
  byteCount : s.byteCount < 2 ^ s.par.wBc
  cRate : s.cRate < 2 ^ s.par.wSr
  bits : ∀ b ∈ s.bits.toList, b.within s.sn
  records : ∀ r ∈ s.observed, r.Fits s.par
  beforeStart : s.started = false →
    s.state = .findStart ∧ s.sn = 0 ∧ s.pduSs = 0 ∧ s.ackSs = 0 ∧ s.pduBitCount = 0 ∧ ∀ b ∈ s.bits.toList, b.within 0

/-- Strobe falling edge between the previous and the current sample; false with the strobe absent (R83, R84). -/
def State.strobeFalling (s : State) : Bool := s.cStb && s.before.stb && !s.cur.stb

/-- Strobe rising edge; false with the strobe absent (R83, R84). -/
def State.strobeRising (s : State) : Bool := s.cStb && !s.before.stb && s.cur.stb

/-- Data falling edge (R83). -/
def State.dataFalling (s : State) : Bool := s.before.dat && !s.cur.dat

/-- Data rising edge (R83). -/
def State.dataRising (s : State) : Bool := !s.before.dat && s.cur.dat

/-- Clock rising edge (R83). -/
def State.clockRising (s : State) : Bool := !s.before.clk && s.cur.clk

/-- Clock falling edge (R83). -/
def State.clockFalling (s : State) : Bool := s.before.clk && !s.cur.clk

/-- The row the patterns of R85 select, tested in the listed order with the first match winning (R87); pattern (c) of
FIND_DATA is split by the variant and the FIND_ACK pattern by the data level (R86), and no match is the NOP (R88). -/
def State.patternRow (s : State) : String :=
  match s.state with
  | .findStart =>
    if s.cur.clk && s.strobeFalling then "START_3W_CH"
    else if !s.cur.clk && s.strobeFalling then "START_3W_CL"
    else if s.cur.clk && s.dataFalling then "START_2W"
    else "NOP_START"
  | .findData =>
    if s.strobeRising then "STOP_STB"
    else if s.cur.clk && s.dataRising then "STOP_DAT"
    else if s.clockRising then (if s.variant = .twoWire then "BIT_2W" else "BIT_3W")
    else "NOP_DATA"
  | .findAck =>
    if s.clockFalling then (if s.cur.dat then "NACK" else "ACK") else "NOP_ACK"
  | .findStop =>
    if s.strobeRising then "STOP_STB_FS"
    else if s.cur.clk && s.dataRising then "STOP_DAT_FS"
    else "NOP_STOP"

/-- The bitrate record of a stop, if there is one (R180): `k = sn - pdu_ss - 1`. -/
def State.bitrateRecords (s : State) : List Record :=
  if s.sn - s.pduSs - 1 = 0 then []
  else [{ kind := .bitrate, ss := s.byteSs, es := s.sn, rate := s.pduBitCount * s.cRate / (s.sn - s.pduSs - 1) }]

/-- The `n` bits held, the newest one closed at the current sample (R162). -/
def State.closedBits (s : State) (n : Nat) : List BitRec :=
  (List.range n).map fun i => if i + 1 = n then { s.bitAt i with es := s.sn } else s.bitAt i

/-- The bit list of a byte record of the bits `bs`: the entries, then zero records up to 8 (R92). -/
def bitListOf (bs : List BitRec) : Vector BitRec 8 := Vector.ofFn fun i => bs.getD i.val BitRec.empty

/-- The record of a completed byte of the bits `bs` (R94, R160, R161), its span ending at the current sample. -/
def State.byteRecordOf (s : State) (bs : List BitRec) (ss : Nat) (val : Byte) : Record :=
  { kind := if s.byteCount = 0 then .command else .data
    ss := ss
    es := s.sn
    val := val
    nbits := BitVec.ofNat 4 bs.length
    blist := bitListOf bs }

/-- The byte of the bits `b0, b1, …`, the first one the least significant (R61). -/
def lsbFirst : List Level → Nat
  | [] => 0
  | b :: rest => b.toNat + 2 * lsbFirst rest

/-- The bit records of clock edges at the listed samples, each closed by the next edge and the last one at `last` (R140). -/
def tiledBits : List (Nat × Level) → Nat → List BitRec
  | [], _ => []
  | [(n, d)], last => [{ v := d, ss := n, es := last }]
  | (n, d) :: (m, e) :: rest, last => { v := d, ss := n, es := m } :: tiledBits ((m, e) :: rest) last

/-- The records of one 3-wire byte of the listed clock edges, closed at `last`, when `count` is `byte_count`: its bits oldest first,
then the byte, its bits in the high end of `val` (R63, R94, R160 to R162). -/
def byteGroup (count : Nat) (edges : List (Nat × Level)) (last : Nat) : List Record :=
  (tiledBits edges last).map bitRecord ++
    [{ kind := if count = 0 then .command else .data
       ss := (edges.headD (0, false)).1
       es := last
       val := BitVec.ofNat 8 (lsbFirst (edges.map Prod.snd) * 2 ^ (8 - edges.length))
       nbits := BitVec.ofNat 4 edges.length
       blist := bitListOf (tiledBits edges last) }]

/-- The byte records of a 3-wire session whose clock edges fall into the listed groups, one group for each byte: each byte is closed
by the first edge of the next group, the last one at `last`, and `byte_count` saturates at `top` (R25, R145, R146, R162). -/
def sessionRecords (top : Nat) : Nat → List (List (Nat × Level)) → Nat → List Record
  | _, [], _ => []
  | count, [g], last => byteGroup count g last
  | count, g :: h :: rest, last =>
    byteGroup count g (h.headD (0, false)).1 ++ sessionRecords top (min (count + 1) top) (h :: rest) last

/-- BIT_2W at each of the listed samples, one after another. -/
def edges2w : List (Nat × Level) → State → Outcome
  | [], s => .next s
  | (n, d) :: rest, s =>
    match execBit2w d { s with sn := n } with
    | .next t => edges2w rest t
    | .fault r => .fault r
    | .refused r => .refused r

/-- BIT_3W at each of the listed samples, one after another. -/
def edges3w : List (Nat × Level) → State → Outcome
  | [], s => .next s
  | (n, d) :: rest, s =>
    match execBit3w d { s with sn := n } with
    | .next t => edges3w rest t
    | .fault r => .fault r
    | .refused r => .refused r

/-- `n` steps, stopping at the first stop. -/
def steps : Nat → State → Outcome
  | 0, s => .next s
  | n + 1, s =>
    match step s with
    | .next t => steps n t
    | .fault r => .fault r
    | .refused r => .refused r

/-- A byte record: COMMAND or DATA. -/
def Record.isByte (r : Record) : Bool := r.kind == .command || r.kind == .data

end Sys2Proof.Machine
end

