-- ==== Sys2Proof/Certificates/Slice0/Obligations.lean ====
section
/-! DEFINITION. The statements about the model, for the provers. An equation of the form `exec i s = .next` with a record update of `s` says the result and the frame at once: every field the update does not name is unchanged. -/

open Sys2Proof Sys2Proof.Machine

/-! ## Decoding -/

/-- Decode and encode agree on every instruction the tables can select, at every value of the open bits (R86, R89). -/
def Obligations.DecodeOfEncode : Prop :=
  ∀ i : Instr, i.wellFormed = true → decodeWord i.nbits (encode i) = .ok i

/-- Encode and decode agree on every word the tables accept: no bit is dropped, and what is decoded is well formed. -/
def Obligations.EncodeOfDecode : Prop :=
  ∀ (nbits w : Nat) (i : Instr), nbits = 8 ∨ nbits = 16 → decodeWord nbits w = .ok i →
    i.wellFormed = true ∧ encode i = w ∧ i.nbits = nbits

/-- R86: the operation table is the one listed, and every decode vector selects the first row of it that matches. -/
def Obligations.FirstMatchingRowSelected : Prop :=
  (operationTable ++ [lastOperationRow]).map (fun r => (r.mask.toNat, r.pattern.toNat, (r.build r.pattern).mnemonic)) =
    [ (0x365, 0x061, "START_3W_CH"), (0x365, 0x060, "START_3W_CL"), (0x313, 0x011, "START_2W"), (0x300, 0x000, "NOP_START"),
      (0x364, 0x144, "STOP_STB"), (0x313, 0x103, "STOP_DAT"), (0x389, 0x101, "BIT_2W"), (0x389, 0x181, "BIT_3W"),
      (0x300, 0x100, "NOP_DATA"), (0x30B, 0x208, "ACK"), (0x30B, 0x20A, "NACK"), (0x300, 0x200, "NOP_ACK"),
      (0x364, 0x344, "STOP_STB_FS"), (0x313, 0x303, "STOP_DAT_FS"), (0x300, 0x300, "NOP_STOP") ] ∧
  ∀ v : DecodeVector, ∃ before r after,
    operationTable ++ [lastOperationRow] = before ++ r :: after ∧ v &&& r.mask = r.pattern ∧
      (∀ q ∈ before, v &&& q.mask ≠ q.pattern) ∧ decodeVector v = r.build v

/-- R82: the fields of the decode vector, most significant first. -/
def Obligations.DecodeVectorLayout : Prop :=
  ∀ (s : State) (p : Levels), s.prev = some p →
    s.decodeVector =
      (s.state.code ++ BitVec.ofBool s.variant.bit ++ BitVec.ofBool s.cStb ++ BitVec.ofBool p.stb ++ BitVec.ofBool p.dat ++
        BitVec.ofBool p.clk ++ BitVec.ofBool (s.cStb && s.port.stb) ++ BitVec.ofBool s.port.dat ++ BitVec.ofBool s.port.clk : BitVec 10)

/-- R83 to R88: the match/mask table selects, in every state, the row of the first pattern of R85 that the edges and levels
satisfy, and the NOP row where none does. -/
def Obligations.TableSelectsFirstPattern : Prop :=
  ∀ s : State, (decodeVector s.decodeVector).mnemonic = s.patternRow

/-- R89: the control vector's fields, the control table in its order, that every control vector selects the first row of it that
matches, and with that the row of a transaction. -/
def Obligations.ControlRowSelected : Prop :=
  (∀ s : State, s.controlVector = s.port.op ++ BitVec.ofBool (s.statusErr != 0) ++ BitVec.ofBool s.started) ∧
  (controlTable ++ [lastControlRow]).map (fun r => (r.mask.toNat, r.pattern.toNat, (r.build r.pattern).mnemonic)) =
    [ (0xC, 0x4, "RESET"), (0x8, 0x8, "RESERVED_OP"), (0xE, 0x2, "SAMPLE_HALTED"), (0xF, 0x0, "DECODE_START"), (0xF, 0x1, "SAMPLE") ] ∧
  (∀ v : ControlVector, ∃ before r after,
    controlTable ++ [lastControlRow] = before ++ r :: after ∧ v &&& r.mask = r.pattern ∧
      (∀ q ∈ before, v &&& q.mask ≠ q.pattern) ∧ decodeControl v = r.build v) ∧
  ∀ s : State, s.selected.mnemonic =
    if s.port.op = 1 then "RESET"
    else if s.port.op = 2 ∨ s.port.op = 3 then "RESERVED_OP"
    else if s.statusErr ≠ 0 then "SAMPLE_HALTED"
    else if s.started = false then "DECODE_START"
    else "SAMPLE"

/-- Decode vectors written out in 95_test_vectors.md select the rows named there, and control words those of R89. -/
def Obligations.WrittenVectorsDecode : Prop :=
  (decodeWord 16 0x07B).map Instr.mnemonic = .ok "START_3W_CH" ∧
  (decodeWord 16 0x060).map Instr.mnemonic = .ok "START_3W_CL" ∧
  (decodeWord 16 0x019).map Instr.mnemonic = .ok "START_2W" ∧
  (decodeWord 16 0x1CF).map Instr.mnemonic = .ok "STOP_STB" ∧
  (decodeWord 16 0x1C3).map Instr.mnemonic = .ok "STOP_DAT" ∧
  (decodeWord 16 0x113).map Instr.mnemonic = .ok "BIT_2W" ∧
  (decodeWord 16 0x1D3).map Instr.mnemonic = .ok "BIT_3W" ∧
  (decodeWord 16 0x20A).map Instr.mnemonic = .ok "NACK" ∧
  (decodeWord 16 0x3DF).map Instr.mnemonic = .ok "STOP_STB_FS" ∧
  (decodeWord 8 0x5).map Instr.mnemonic = .ok "RESET"

/-! ## Steps -/

/-- A step runs the decoded instruction: with no record waiting and a transaction presented, the step is exec of the control
row of the transaction, on the state in which the transaction's levels stand on the ports and it is no longer presented. -/
def Obligations.StepRunsDecodedInstruction : Prop :=
  ∀ (s : State) (q : Request) (rest : List Request) (i : Instr), s.waiting = [] → s.inq = q :: rest →
    decodeControl ({ s with port := q, inq := rest } : State).controlVector = i →
    step s = exec i { s with port := q, inq := rest }

/-- R100: a SAMPLE runs the operation its decode vector selects under the state held before it, at the next sample index, and
then `prev` is the sample; at the last sample index it is refused (R236). `prev` holds a value in every running core of a run. -/
def Obligations.SampleRunsSelectedOperation : Prop :=
  ∀ s : State, s.prev.isSome = true →
    (s.sn = 2 ^ s.par.wSn - 1 → exec .sample s = .refused .sampleIndexOverflow) ∧
    (s.sn < 2 ^ s.par.wSn - 1 →
      exec .sample s =
        mapNext (latchPrev { stb := s.cStb && s.port.stb, dat := s.port.dat, clk := s.port.clk })
          (exec (decodeVector s.decodeVector) { s with sn := s.sn + 1 }))

/-- R64, R100: a SAMPLE below the last index completes, moves `sn` on by one, keeps its levels as `prev`, and touches neither
the parameters, the configuration, the status nor the host's side. It only appends records. -/
def Obligations.SampleCompletes : Prop :=
  ∀ s : State, s.sn < 2 ^ s.par.wSn - 1 → s.bitCount.toNat ≤ 8 →
    ∃ t : State, exec .sample s = .next t ∧ t.sn = s.sn + 1 ∧ t.prev = some s.cur ∧ t.par = s.par ∧ t.started = s.started ∧
      t.statusErr = s.statusErr ∧ t.cClk = s.cClk ∧ t.cDat = s.cDat ∧ t.cStb = s.cStb ∧ t.cRate = s.cRate ∧
      t.cRadix = s.cRadix ∧ t.port = s.port ∧ t.inq = s.inq ∧ t.outReady = s.outReady ∧ t.sent = s.sent ∧
      s.waiting <+: t.waiting

/-- R88: a sample that matches no pattern selects the NOP row of its state, changes nothing but `sn` and `prev`, and emits no
record. -/
def Obligations.UnmatchedSampleChangesNothing : Prop :=
  ∀ s : State, s.prev.isSome = true → s.sn < 2 ^ s.par.wSn - 1 →
    s.patternRow ∈ ["NOP_START", "NOP_DATA", "NOP_ACK", "NOP_STOP"] →
    (decodeVector s.decodeVector).mnemonic = s.patternRow ∧
    exec .sample s = .next { s with sn := s.sn + 1, prev := some s.cur }

/-- R235: at the end of input nothing happens. -/
def Obligations.EndOfInputChangesNothing : Prop :=
  ∀ s : State, s.waiting = [] → s.inq = [] → step s = .next s

/-- R93, R231, R233: while a record waits no transaction is accepted; the oldest record leaves in a cycle with `out_ready` at 1,
and nothing moves in a cycle with it at 0. That `out_ready` is 1 past the levels listed is the model's choice (log 2). -/
def Obligations.RecordLeavesWhenReady : Prop :=
  ∀ (s : State) (r : Record) (rest : List Record), s.waiting = r :: rest →
    (s.outReady.head? ≠ some false →
      step s = .next { s with outReady := s.outReady.tail, sent := s.sent ++ [r], waiting := rest }) ∧
    (s.outReady.head? = some false → step s = .next { s with outReady := s.outReady.tail })

/-- R231: with the host ready, as many steps as records wait hand all of them over, in order, and nothing else changes. -/
def Obligations.WaitingRecordsDrainInOrder : Prop :=
  ∀ s : State, s.outReady = [] →
    steps s.waiting.length s = .next { s with waiting := [], sent := s.sent ++ s.waiting }

/-- R64, R231: no step drops, changes or reorders a record already emitted. -/
def Obligations.ObservationOnlyGrows : Prop :=
  ∀ s t : State, step s = .next t → s.observed <+: t.observed

/-- R96: one transaction emits at most 11 records. -/
def Obligations.AtMostElevenRecords : Prop :=
  ∀ s t : State, s.Sound → s.waiting = [] → step s = .next t → t.waiting.length ≤ 11

/-- R8, R37, R233: no step changes the parameters; a step that performs a transaction takes one transaction from the host and
leaves the records already handed over. -/
def Obligations.StepKeepsParametersAndEdge : Prop :=
  ∀ s t : State, step s = .next t →
    t.par = s.par ∧ (s.waiting = [] → t.inq = s.inq.tail ∧ t.sent = s.sent ∧ t.outReady = s.outReady)

/-! ## Reset, decode start, errors -/

/-- R220: RESET writes every register with its reset value, emits nothing, is accepted in every condition, and power-on leaves
the state it gives. -/
def Obligations.ResetWritesEveryRegister : Prop :=
  (∀ (s : State) (halted started : Bool),
    exec (.reset halted started) s = .next
      { par := s.par, state := .findStart, variant := .twoWire, bitCount := 0, value := 0,
        bits := Vector.replicate 9 BitRec.empty, byteCount := 0, byteSs := s.par.byteSsReset, ackSs := 0, pduSs := 0,
        pduBitCount := 0, sn := 0, prev := none, started := false, statusErr := 0, cClk := false, cDat := false,
        cStb := false, cRate := 0, cRadix := 0, port := s.port, inq := s.inq, outReady := s.outReady,
        waiting := s.waiting, sent := s.sent }) ∧
  (∀ (s : State) (q : Request) (rest : List Request), s.waiting = [] → s.inq = q :: rest → q.op = 1 →
    step s = exec (.reset s.halted s.started) { s with port := q, inq := rest }) ∧
  exec (.reset false false) State.reset = .next State.reset

/-- R221: the state after RESET does not depend on what the registers held, and a second RESET changes nothing. -/
def Obligations.ResetForgetsHistory : Prop :=
  ∀ (s u t : State) (h k : Bool), exec (.reset h k) s = .next t →
    exec (.reset h k) t = .next t ∧
      (u.par = s.par →
        exec (.reset h k) u = .next { t with port := u.port, inq := u.inq, outReady := u.outReady, waiting := u.waiting, sent := u.sent })

/-- R90: a transaction with a reserved `in_op` is refused, whatever the state. -/
def Obligations.ReservedOperationRefused : Prop :=
  (∀ (s : State) (op0 halted started : Bool), exec (.reservedOp op0 halted started) s = .refused .reservedOp) ∧
  (∀ (s : State) (q : Request) (rest : List Request), s.waiting = [] → s.inq = q :: rest → q.op = 2 ∨ q.op = 3 →
    step s = .refused .reservedOp)

/-- R205: a fatal error writes `status_err` alone, and while it is nonzero every SAMPLE is accepted and ignored. -/
def Obligations.HaltedCoreIgnoresSamples : Prop :=
  (∀ (s : State) (code : BitVec 2), raiseFatal code s = { s with statusErr := code }) ∧
  (∀ (s : State) (started : Bool), exec (.sampleHalted started) s = .next s) ∧
  (∀ (s : State) (q : Request) (rest : List Request), s.waiting = [] → s.inq = q :: rest → q.op = 0 → s.statusErr ≠ 0 →
    step s = .next { s with port := q, inq := rest })

/-- R201 to R204: decode start latches the configuration; a missing clock or data channel is recorded first, then a missing
sample rate, and in both cases the sample is not evaluated; otherwise the sample is evaluated as sample 0, with `prev` from
`INIT_PREV`, and under SAME_AS_SAMPLE0 it selects NOP_START. `cfg_samplerate` has `W_SR` wires (R10). -/
def Obligations.DecodeStartChecksThenEvaluates : Prop :=
  ∀ s l : State, s.port.cfgRate < 2 ^ s.par.wSr →
    l = { s with started := true, cClk := s.port.cfgClk, cDat := s.port.cfgDat, cStb := s.port.cfgStb,
                 cRate := s.port.cfgRate, cRadix := s.port.cfgRadix } →
    (l.cClk = false ∨ l.cDat = false → exec .decodeStart s = .next { l with statusErr := 1 }) ∧
    (l.cClk = true → l.cDat = true → l.cRate = 0 → exec .decodeStart s = .next { l with statusErr := 2 }) ∧
    (l.cClk = true → l.cDat = true → l.cRate ≠ 0 →
      ∀ e : State,
        e = { l with
              sn := 0
              prev := some (match s.par.initPrev with
                | .sameAsSample0 => { stb := l.cStb && s.port.stb, dat := s.port.dat, clk := s.port.clk }
                | .allLow => { stb := false, dat := false, clk := false }
                | .allHigh => { stb := l.cStb, dat := true, clk := true }) } →
        exec .decodeStart s = mapNext (latchPrev e.cur) (exec (decodeVector e.decodeVector) e) ∧
          (s.par.initPrev = .sameAsSample0 → s.state = .findStart → (decodeVector e.decodeVector).mnemonic = "NOP_START"))

/-- R201: with a valid configuration the first sample completes as sample 0, for every `INIT_PREV`; where that is not ALL_HIGH it
selects NOP_START, so it is latched as `prev` and nothing is emitted. That a port of `W_SR` wires carries the low `W_SR` bits is
DEDUCED (log 9). -/
def Obligations.DecodeStartCompletes : Prop :=
  ∀ s : State, s.state = .findStart → s.port.cfgClk = true → s.port.cfgDat = true → s.port.cfgRate % 2 ^ s.par.wSr ≠ 0 →
    (∃ t : State, exec .decodeStart s = .next t ∧ t.started = true ∧ t.statusErr = s.statusErr ∧ t.sn = 0 ∧
      t.prev = some { stb := s.port.cfgStb && s.port.stb, dat := s.port.dat, clk := s.port.clk }) ∧
    (s.par.initPrev ≠ .allHigh →
      exec .decodeStart s = .next
        { s with
          started := true
          cClk := true
          cDat := true
          cStb := s.port.cfgStb
          cRate := s.port.cfgRate % 2 ^ s.par.wSr
          cRadix := s.port.cfgRadix
          sn := 0
          prev := some { stb := s.port.cfgStb && s.port.stb, dat := s.port.dat, clk := s.port.clk } })

/-! ## Start, stop, bits, acknowledge: each row's result and frame -/

/-- R105 with R101 and R102: the two 3-wire starts. -/
def Obligations.ThreeWireStartRows : Prop :=
  ∀ (s : State) (V pd pc d : Bool), ∀ i ∈ [Instr.start3wCh V pd pc d, Instr.start3wCl V pd pc d],
    exec i s = .next
      { s with
        variant := .threeWire
        pduSs := s.sn
        pduBitCount := 0
        byteCount := 0
        bitCount := 0
        value := 0
        bits := Vector.replicate 9 BitRec.empty
        waiting := s.waiting ++ [{ kind := .start, ss := s.sn, es := s.sn }]
        state := .findData }

/-- R105 with R103: the 2-wire start. -/
def Obligations.TwoWireStartRow : Prop :=
  ∀ (s : State) (V P ps pc stb : Bool),
    exec (.start2w V P ps pc stb) s = .next
      { s with
        variant := .twoWire
        pduSs := s.sn
        pduBitCount := 0
        byteCount := 0
        bitCount := 0
        value := 0
        bits := Vector.replicate 9 BitRec.empty
        waiting := s.waiting ++ [{ kind := .start, ss := s.sn, es := s.sn }]
        state := .findData }

/-- R101 to R104 with R105, on a whole SAMPLE: in FIND_START a strobe falling edge starts a 3-wire session whatever the clock and data
do, a data falling edge with the clock high then starts a 2-wire session, and any other sample is only counted. -/
def Obligations.SampleInFindStart : Prop :=
  ∀ s : State, s.prev.isSome = true → s.state = .findStart → s.sn < 2 ^ s.par.wSn - 1 →
    exec .sample s = .next
      (if s.strobeFalling = true ∨ (s.cur.clk && s.dataFalling) = true then
        { s with
          sn := s.sn + 1
          prev := some s.cur
          variant := if s.strobeFalling = true then .threeWire else .twoWire
          pduSs := s.sn + 1
          pduBitCount := 0
          byteCount := 0
          bitCount := 0
          value := 0
          bits := Vector.replicate 9 BitRec.empty
          waiting := s.waiting ++ [{ kind := .start, ss := s.sn + 1, es := s.sn + 1 }]
          state := .findData }
      else { s with sn := s.sn + 1, prev := some s.cur })

/-- R85 to R88 and R110 on a whole SAMPLE: in FIND_DATA a strobe rising edge stops, then a data rising edge with the clock high stops,
then a clock rising edge takes the data level of that sample as a bit of the session's variant, and any other sample is only
counted. What the rows then do is stated of each of them. -/
def Obligations.SampleInFindData : Prop :=
  ∀ s : State, s.prev.isSome = true → s.state = .findData → s.sn < 2 ^ s.par.wSn - 1 →
    exec .sample s = mapNext (latchPrev s.cur)
      (if s.strobeRising = true then exec (.stopStb false false false false false) { s with sn := s.sn + 1 }
      else if (s.cur.clk && s.dataRising) = true then exec (.stopDat false false false false false) { s with sn := s.sn + 1 }
      else if s.clockRising = true then
        (match s.variant with
        | .twoWire => exec (.bit2w false false false false s.port.dat) { s with sn := s.sn + 1 }
        | .threeWire => exec (.bit3w false false false false s.port.dat) { s with sn := s.sn + 1 })
      else .next { s with sn := s.sn + 1 })

/-- R104, R109, R113, R166: the rule of a NOP row changes nothing. -/
def Obligations.NopRowsChangeNothing : Prop :=
  ∀ (s : State) (V P ps pd pc stb d c : Bool),
    ∀ i ∈ [Instr.nopStart V P ps pd pc stb d c, .nopData V P ps pd pc stb d c, .nopAck V P ps pd pc stb d c,
      .nopStop V P ps pd pc stb d c], exec i s = .next s

/-- R108 with R162 and R180, for the four stop rows: a 2-wire session discards its bits; a 3-wire session flushes its 1 to 8 bits
as BIT records and one byte, or nothing when it holds none; then the bitrate, then STOP; then the accumulator is clear and the
state is FIND_START. Where `sn` is not past `pdu_ss`, which no stop of a run meets, `k` is 0 (log 14). -/
def Obligations.StopRowsEndTheSession : Prop :=
  ∀ (s : State) (V P ps pd pc stb d c : Bool),
    ∀ i ∈ [Instr.stopStb V pd pc d c, .stopDat V P ps pc stb, .stopStbFs V pd pc d c, .stopDatFs V P ps pc stb],
    (s.variant = .twoWire ∨ s.bitCount = 0 →
      exec i s = .next
        { s with
          bitCount := 0
          value := 0
          bits := Vector.replicate 9 BitRec.empty
          waiting := s.waiting ++ s.bitrateRecords ++ [{ kind := .stop, ss := s.sn, es := s.sn }]
          state := .findStart }) ∧
    (s.variant = .threeWire → 1 ≤ s.bitCount.toNat → s.bitCount.toNat ≤ 8 →
      exec i s = .next
        { s with
          bitCount := 0
          value := 0
          bits := Vector.replicate 9 BitRec.empty
          byteCount := min (s.byteCount + 1) (2 ^ s.par.wBc - 1)
          waiting := s.waiting ++ (s.closedBits s.bitCount.toNat).map bitRecord ++
            [s.byteRecordOf (s.closedBits s.bitCount.toNat) s.byteSs s.value] ++ s.bitrateRecords ++
            [{ kind := .stop, ss := s.sn, es := s.sn }]
          state := .findStart })

/-- R143, R144, R163: BIT_2W takes the first bit of a byte, a later bit (reporting the one before it), or the ninth edge, which
completes the byte and drops its own level. -/
def Obligations.TwoWireBitRow : Prop :=
  ∀ (s : State) (P ps pd stb d : Bool) (n : Nat), s.bitCount.toNat = n →
    (n = 0 →
      exec (.bit2w P ps pd stb d) s = .next
        { s with
          pduBitCount := s.pduBitCount + 1
          byteSs := s.sn
          bits := s.bits.setIfInBounds 0 { v := d, ss := s.sn, es := s.sn }
          bitCount := 1
          value := s.value >>> 1 ||| (if d then 0x80 else 0) }) ∧
    (1 ≤ n → n ≤ 7 →
      exec (.bit2w P ps pd stb d) s = .next
        { s with
          pduBitCount := s.pduBitCount + 1
          bits := (s.bits.setIfInBounds (n - 1) { s.bitAt (n - 1) with es := s.sn }).setIfInBounds n { v := d, ss := s.sn, es := s.sn }
          bitCount := BitVec.ofNat 4 (n + 1)
          value := s.value >>> 1 ||| (if d then 0x80 else 0)
          waiting := s.waiting ++ [bitRecord { s.bitAt (n - 1) with es := s.sn }] }) ∧
    (n = 8 →
      exec (.bit2w P ps pd stb d) s = .next
        { s with
          pduBitCount := s.pduBitCount + 1
          bits := Vector.replicate 9 BitRec.empty
          bitCount := 0
          value := 0
          byteCount := min (s.byteCount + 1) (2 ^ s.par.wBc - 1)
          ackSs := s.sn
          waiting := s.waiting ++ [bitRecord { s.bitAt 7 with es := s.sn }] ++
            [s.byteRecordOf (s.closedBits 8) s.byteSs s.value]
          state := .findAck })

/-- R145, R162: BIT_3W takes a bit without a record, and first flushes a full byte. -/
def Obligations.ThreeWireBitRow : Prop :=
  ∀ (s : State) (P ps pd stb d : Bool) (n : Nat), s.bitCount.toNat = n →
    (n = 0 →
      exec (.bit3w P ps pd stb d) s = .next
        { s with
          pduBitCount := s.pduBitCount + 1
          byteSs := s.sn
          bits := s.bits.setIfInBounds 0 { v := d, ss := s.sn, es := s.sn }
          bitCount := 1
          value := s.value >>> 1 ||| (if d then 0x80 else 0) }) ∧
    (1 ≤ n → n ≤ 7 →
      exec (.bit3w P ps pd stb d) s = .next
        { s with
          pduBitCount := s.pduBitCount + 1
          bits := (s.bits.setIfInBounds (n - 1) { s.bitAt (n - 1) with es := s.sn }).setIfInBounds n { v := d, ss := s.sn, es := s.sn }
          bitCount := BitVec.ofNat 4 (n + 1)
          value := s.value >>> 1 ||| (if d then 0x80 else 0) }) ∧
    (n = 8 →
      exec (.bit3w P ps pd stb d) s = .next
        { s with
          pduBitCount := s.pduBitCount + 1
          byteSs := s.sn
          bits := (Vector.replicate 9 BitRec.empty).setIfInBounds 0 { v := d, ss := s.sn, es := s.sn }
          bitCount := 1
          value := if d then 0x80 else 0
          byteCount := min (s.byteCount + 1) (2 ^ s.par.wBc - 1)
          waiting := s.waiting ++ (s.closedBits 8).map bitRecord ++ [s.byteRecordOf (s.closedBits 8) s.byteSs s.value] })

/-- The model's choice for a `bit_count` no run holds (log 7; R91 allows the refusal for 10 to 15): above 8 BIT_3W and the flush of a
stop are refused; BIT_2W is refused above 9, and at 9 completes the byte without a BIT record, as R143's test before the
increment says. -/
def Obligations.BitCountAboveEight : Prop :=
  ∀ (s : State) (V P ps pd pc stb d c : Bool), 8 < s.bitCount.toNat →
    (s.bitCount.toNat = 9 →
      exec (.bit2w P ps pd stb d) s = .next
        { s with
          pduBitCount := s.pduBitCount + 1
          bits := Vector.replicate 9 BitRec.empty
          bitCount := 0
          value := 0
          byteCount := min (s.byteCount + 1) (2 ^ s.par.wBc - 1)
          ackSs := (s.bitAt 7).es
          waiting := s.waiting ++ [s.byteRecordOf ((List.range 8).map s.bitAt) s.byteSs s.value]
          state := .findAck }) ∧
    (9 < s.bitCount.toNat → exec (.bit2w P ps pd stb d) s = .refused .bitCountReserved) ∧
    exec (.bit3w P ps pd stb d) s = .refused .bitCountReserved ∧
    (s.variant = .threeWire →
      ∀ i ∈ [Instr.stopStb V pd pc d c, .stopDat V P ps pc stb, .stopStbFs V pd pc d c, .stopDatFs V P ps pc stb],
        exec i s = .refused .bitCountReserved)

/-- R164, R165: the rules of the two answers. -/
def Obligations.AcknowledgeRows : Prop :=
  ∀ (s : State) (V P ps pd stb : Bool),
    exec (.ack V P ps pd stb) s =
        .next { s with waiting := s.waiting ++ [{ kind := .ack, ss := s.ackSs, es := s.sn }], state := .findData } ∧
    exec (.nack V P ps pd stb) s =
        .next { s with waiting := s.waiting ++ [{ kind := .nack, ss := s.ackSs, es := s.sn }], state := .findData }

/-- R164 to R166 and R116 on a whole SAMPLE: in FIND_ACK only a clock falling edge does anything; it is an ACK where the data level
of that sample is low and a NACK where it is high, and the core goes on in FIND_DATA. -/
def Obligations.SampleInFindAck : Prop :=
  ∀ (s : State) (p : Levels), s.prev = some p → s.state = .findAck → s.sn < 2 ^ s.par.wSn - 1 →
    exec .sample s = .next
      (if p.clk = true ∧ s.port.clk = false then
        { s with
          sn := s.sn + 1
          prev := some s.cur
          waiting := s.waiting ++ [{ kind := if s.port.dat then .nack else .ack, ss := s.ackSs, es := s.sn + 1 }]
          state := .findData }
      else { s with sn := s.sn + 1, prev := some s.cur })

/-! ## The byte and the bitrate -/

/-- R142, R61: the fold, and that eight folds from any starting value assemble the byte with the first bit least significant. -/
def Obligations.EightFoldsAreLsbFirst : Prop :=
  (∀ (v : Byte) (d : Level), foldBit v d = v >>> 1 ||| (if d then 0x80 else 0)) ∧
  ∀ (v : Byte) (bs : List Level), bs.length = 8 → bs.foldl foldBit v = BitVec.ofNat 8 (lsbFirst bs)

/-- R180, with the worked example of R184: the bitrate is exact, its record spans from `byte_ss`, and there is none for `k = 0`. The
session's START lies before the stop, as R181 derives. -/
def Obligations.BitrateIsExact : Prop :=
  (∀ s : State, s.pduSs < s.sn → s.sn - s.pduSs - 1 = 0 → timingReport s = s) ∧
  (∀ s : State, s.pduSs < s.sn → s.sn - s.pduSs - 1 ≠ 0 →
    timingReport s = { s with
      waiting := s.waiting ++ [{ kind := .bitrate, ss := s.byteSs, es := s.sn,
                                 rate := s.pduBitCount * s.cRate / (s.sn - s.pduSs - 1) }] }) ∧
  (∀ s : State, s.pduSs = 0 → s.sn = 1001 → s.pduBitCount = 80 → s.cRate = 1000000 → s.bitrate = 80000)

/-- R183: the rate fits its field of `W_SN + W_SR` bits. -/
def Obligations.BitrateFitsItsField : Prop :=
  ∀ s : State, s.Fits → s.bitrate < 2 ^ (s.par.wSn + s.par.wSr)

/-- R181: in a running session a stop reports a bitrate exactly when it is not at the sample right after the START. -/
def Obligations.BitrateUnlessStopFollowsStart : Prop :=
  ∀ s t : State, s.Sound → s.state = .findData → s.patternRow = "STOP_STB" ∨ s.patternRow = "STOP_DAT" →
    exec .sample s = .next t →
    ((∃ r ∈ t.waiting.drop s.waiting.length, r.kind = .bitrate) ↔ s.sn ≠ s.pduSs)

/-- R160: a byte completed by a step is COMMAND when `byte_count` was 0 and DATA otherwise, and completing one leaves `byte_count`
nonzero. That it then stays nonzero until the next START is `ByteCountNonzeroUntilStart`. -/
def Obligations.FirstByteIsCommand : Prop :=
  ∀ s t : State, s.waiting = [] → step s = .next t →
    ∀ r ∈ t.waiting, r.isByte = true →
      r.kind = (if s.byteCount = 0 then Kind.command else Kind.data) ∧ (1 ≤ s.par.wBc → t.byteCount ≠ 0)

/-- R167, R25: no step but a START or a RESET makes a nonzero `byte_count` 0, so within one session every byte after the first finds
it nonzero and is DATA. -/
def Obligations.ByteCountNonzeroUntilStart : Prop :=
  ∀ s t : State, 1 ≤ s.par.wBc → s.byteCount ≠ 0 → (s.waiting = [] → ∀ q ∈ s.inq.head?, q.op ≠ 1) → step s = .next t →
    t.byteCount ≠ 0 ∨
      (s.state = .findStart ∧ t.state = .findData ∧ t.waiting = s.waiting ++ [{ kind := .start, ss := t.sn, es := t.sn }])

/-- R143, R144, R163, R61, R62 over a whole byte: nine clock edges of a 2-wire session, whatever their samples and levels, give the
eight BIT records that tile the byte's span, then the byte, first bit least significant, and leave the core in FIND_ACK with
the ACK window open at the ninth edge. -/
def Obligations.NineEdgesMakeTwoWireByte : Prop :=
  ∀ (s : State) (edges : List (Nat × Level)) (n : Nat) (d : Level), edges.length = 8 → s.bitCount = 0 →
    edges2w (edges ++ [(n, d)]) s = .next
      { s with
        state := .findAck
        bitCount := 0
        value := 0
        bits := Vector.replicate 9 BitRec.empty
        byteCount := min (s.byteCount + 1) (2 ^ s.par.wBc - 1)
        byteSs := (edges.headD (0, false)).1
        ackSs := n
        pduBitCount := s.pduBitCount + 9
        sn := n
        waiting := s.waiting ++ (tiledBits edges n).map bitRecord ++
          [{ kind := if s.byteCount = 0 then .command else .data
             ss := (edges.headD (0, false)).1
             es := n
             val := BitVec.ofNat 8 (lsbFirst (edges.map Prod.snd))
             nbits := 8
             blist := bitListOf (tiledBits edges n) }] }

/-- R145, R162, R146: nine clock edges of a 3-wire session: the ninth flushes the byte of the first eight and opens the next byte at
its own sample. -/
def Obligations.NinthEdgeFlushesThreeWireByte : Prop :=
  ∀ (s : State) (edges : List (Nat × Level)) (n : Nat) (d : Level), edges.length = 8 → s.bitCount = 0 →
    edges3w (edges ++ [(n, d)]) s = .next
      { s with
        bitCount := 1
        value := if d then 0x80 else 0
        bits := (Vector.replicate 9 BitRec.empty).setIfInBounds 0 { v := d, ss := n, es := n }
        byteCount := min (s.byteCount + 1) (2 ^ s.par.wBc - 1)
        byteSs := n
        pduBitCount := s.pduBitCount + 9
        sn := n
        waiting := s.waiting ++ (tiledBits edges n).map bitRecord ++
          [{ kind := if s.byteCount = 0 then .command else .data
             ss := (edges.headD (0, false)).1
             es := n
             val := BitVec.ofNat 8 (lsbFirst (edges.map Prod.snd))
             nbits := 8
             blist := bitListOf (tiledBits edges n) }] }

/-- R63, R108, R145, R162, R180: from an empty accumulator, one to eight clock edges of a 3-wire session and then STOP_STB: the bits are reported,
and the byte is emitted with its bits in the high end of `value`. Where the stop is not past `pdu_ss`, which no stop of a run
meets, `k` is 0 (the model's choice, log 14). Sessions of more bytes and the other stop rows are
`ThreeWireSessionReportsEveryBit`. -/
def Obligations.StopFlushesThreeWireBits : Prop :=
  ∀ (s : State) (edges : List (Nat × Level)) (n : Nat) (V pd pc d c : Bool), 1 ≤ edges.length → edges.length ≤ 8 →
    s.variant = .threeWire → s.bitCount = 0 → s.value = 0 →
    ∃ u, edges3w edges s = .next u ∧ exec (.stopStb V pd pc d c) { u with sn := n } = .next
      { s with
        state := .findStart
        bitCount := 0
        value := 0
        bits := Vector.replicate 9 BitRec.empty
        byteCount := min (s.byteCount + 1) (2 ^ s.par.wBc - 1)
        byteSs := (edges.headD (0, false)).1
        pduBitCount := s.pduBitCount + edges.length
        sn := n
        waiting := s.waiting ++ (tiledBits edges n).map bitRecord ++
          [{ kind := if s.byteCount = 0 then .command else .data
             ss := (edges.headD (0, false)).1
             es := n
             val := BitVec.ofNat 8 (lsbFirst (edges.map Prod.snd) * 2 ^ (8 - edges.length))
             nbits := BitVec.ofNat 4 edges.length
             blist := bitListOf (tiledBits edges n) }] ++
          ({ u with sn := n } : State).bitrateRecords ++ [{ kind := .stop, ss := n, es := n }] }

/-- R63, R108, R145, R146, R162 over a whole 3-wire session, of any length and ended by any of the four stop rows: the clock edges fall
into groups of eight, the last group having one to eight, and each group is reported as its bits and its byte, closed by the
first edge of the next group or by the stop. Then come the bitrate and STOP. (A stop not past `pdu_ss` has `k` = 0: log 14.) -/
def Obligations.ThreeWireSessionReportsEveryBit : Prop :=
  ∀ (s : State) (full : List (List (Nat × Level))) (final : List (Nat × Level)) (n : Nat) (V P ps pd pc stb d c : Bool),
    (∀ g ∈ full, g.length = 8) → 1 ≤ final.length → final.length ≤ 8 → s.variant = .threeWire → s.bitCount = 0 → s.value = 0 →
    ∃ u, edges3w (full.flatten ++ final) s = .next u ∧
      ∀ i ∈ [Instr.stopStb V pd pc d c, .stopDat V P ps pc stb, .stopStbFs V pd pc d c, .stopDatFs V P ps pc stb],
        exec i { u with sn := n } = .next
          { s with
            state := .findStart
            bitCount := 0
            value := 0
            bits := Vector.replicate 9 BitRec.empty
            byteCount := min (s.byteCount + full.length + 1) (2 ^ s.par.wBc - 1)
            byteSs := (final.headD (0, false)).1
            pduBitCount := s.pduBitCount + 8 * full.length + final.length
            sn := n
            waiting := s.waiting ++ sessionRecords (2 ^ s.par.wBc - 1) s.byteCount (full ++ [final]) n ++
              ({ s with
                  sn := n
                  byteSs := (final.headD (0, false)).1
                  pduBitCount := s.pduBitCount + 8 * full.length + final.length } : State).bitrateRecords ++
              [{ kind := .stop, ss := n, es := n }] }

/-! ## Invariants and whole-machine rules -/

/-- R36: every step keeps the invariants. -/
def Obligations.StepKeepsSound : Prop := ∀ s t : State, s.Sound → step s = .next t → t.Sound

/-- R36: the invariants hold right after reset. -/
def Obligations.ResetIsSound : Prop := State.reset.Sound

/-- R8, R22 to R34, R92: every step keeps every natural within the width of its register or record field. -/
def Obligations.StepKeepsWidths : Prop := ∀ s t : State, s.Fits → step s = .next t → t.Fits

/-- R8: the widths hold right after reset. -/
def Obligations.ResetFits : Prop := State.reset.Fits

/-- R114: outside FIND_START no step but a RESET changes the variant. -/
def Obligations.VariantStableInSession : Prop :=
  ∀ s t : State, s.state ≠ .findStart → (∀ q ∈ s.inq.head?, q.op ≠ 1) → step s = .next t → t.variant = s.variant

/-- R115: no step enters FIND_STOP. -/
def Obligations.FindStopNeverEntered : Prop :=
  ∀ s t : State, s.state ≠ .findStop → step s = .next t → t.state ≠ .findStop

/-- R84: with the strobe absent a session that a step starts is 2-wire, the one that sample 0 can start under ALL_HIGH included: the
strobe is latched absent, or is absent at the decode start that this step performs. -/
def Obligations.AbsentStrobeStartsTwoWire : Prop :=
  ∀ s t : State, (s.started = true ∧ s.cStb = false) ∨ (s.started = false ∧ ∀ q ∈ s.inq.head?, q.cfgStb = false) →
    s.state = .findStart → step s = .next t →
    t.state = .findStart ∨ (t.state = .findData ∧ t.variant = .twoWire)

/-- R116: in FIND_ACK and FIND_DATA no START record is emitted, and in FIND_ACK no STOP record. -/
def Obligations.NoStartInsideSession : Prop :=
  ∀ s t : State, s.waiting = [] → s.state = .findData ∨ s.state = .findAck → step s = .next t →
    ∀ r ∈ t.waiting, r.kind ≠ .start ∧ (s.state = .findAck → r.kind ≠ .stop)

/-- R34: once decode has started, the configuration inputs that come with a transaction make no difference. -/
def Obligations.ConfigInputsIgnoredAfterStart : Prop :=
  ∀ (s : State) (q p : Request) (rest : List Request), s.started = true → s.waiting = [] → s.inq = q :: rest →
    p.op = q.op → p.clk = q.clk → p.dat = q.dat → p.stb = q.stb →
    step { s with inq := p :: rest } = mapNext (fun t => { t with port := p }) (step s)

/-- R81: while the strobe is absent the level on `in_stb` makes no difference. -/
def Obligations.AbsentStrobeLevelIgnored : Prop :=
  ∀ (s : State) (q : Request) (rest : List Request) (b : Bool), s.waiting = [] → s.inq = q :: rest →
    (s.started = true ∧ s.cStb = false) ∨ (s.started = false ∧ q.cfgStb = false) →
    step { s with inq := { q with stb := b } :: rest } = mapNext (fun t => { t with port := { q with stb := b } }) (step s)

/-- R35: no rule reads the latched radix: with another value in it every instruction does the same and keeps that value, RESET and
DECODE_START write over it, and a step that performs no transaction does the same and keeps it. -/
def Obligations.RadixNeverRead : Prop :=
  ∀ (s : State) (x : BitVec 2),
    (∀ i : Instr, i.mnemonic ≠ "RESET" → i.mnemonic ≠ "DECODE_START" →
      exec i { s with cRadix := x } = mapNext (fun t => { t with cRadix := x }) (exec i s)) ∧
    (∀ i : Instr, i.mnemonic = "RESET" ∨ i.mnemonic = "DECODE_START" → exec i { s with cRadix := x } = exec i s) ∧
    (s.waiting ≠ [] ∨ s.inq = [] → step { s with cRadix := x } = mapNext (fun t => { t with cRadix := x }) (step s))

/-- R95: the items that the host's view makes of a byte record in a given radix, in order. That an annotation carries its value and the
radix, and that the BITS record carries its byte's kind, is the model's form of R95 (log 18). -/
def Obligations.ByteRecordFansOut : Prop :=
  ∀ (radix : BitVec 2) (r : Record), r.kind = .command ∨ r.kind = .data →
    fanOut radix r =
      [ .structured r.kind r.ss r.es (.bits (r.blist.toList.take r.nbits.toNat)), .structured r.kind r.ss r.es (.byte r.val),
        .binary r.ss r.es r.val, .annotation r.kind r.ss r.es (some r.val) radix ]
end

