-- ==== Sys2Proof/Laws/Decode.lean ====
section
/-! SUPPORT. What the two tables select: operation rows from decode vectors, control rows from control vectors, and for each operation row the FSM state and variant that selected it. -/

namespace Sys2Proof

/-- A row a search answers with is a row of the table or the one after it. -/
theorem firstRow_mem {n : Nat} (rows : List (TableRow n)) (last : TableRow n) (v : BitVec n) :
    ∃ r ∈ rows ++ [last], firstRow rows last v = r.build v := by
  unfold firstRow
  cases h : rows.find? (·.hits v) with
  | none => exact ⟨last, by simp, rfl⟩
  | some r => exact ⟨r, by simp [List.mem_of_find?_eq_some h], rfl⟩

/-- A decode vector selects an operation row, never a control row (R86). -/
theorem decodeVector_isOperation (v : DecodeVector) : (decodeVector v).isOperation = true := by
  obtain ⟨r, hr, h⟩ := firstRow_mem operationTable lastOperationRow v
  unfold decodeVector
  rw [h]
  simp only [operationTable, lastOperationRow, List.cons_append, List.nil_append, List.mem_cons, List.not_mem_nil, or_false] at hr
  rcases hr with rfl | rfl | rfl | rfl | rfl | rfl | rfl | rfl | rfl | rfl | rfl | rfl | rfl | rfl | rfl <;> rfl

/-- A control vector selects a control row (R89). -/
theorem decodeControl_not_isOperation (c : ControlVector) : (decodeControl c).isOperation = false := by
  obtain ⟨r, hr, h⟩ := firstRow_mem controlTable lastControlRow c
  unfold decodeControl
  rw [h]
  simp only [controlTable, lastControlRow, List.cons_append, List.nil_append, List.mem_cons, List.not_mem_nil, or_false] at hr
  rcases hr with rfl | rfl | rfl | rfl | rfl <;> rfl

/-- The row of every control vector, by its fields (R89). -/
theorem decodeControl_controlBits (op1 op0 halted started : Bool) :
    decodeControl (BitVec.ofNat 4 (controlBits op1 op0 halted started)) =
      if op1 then .reservedOp op0 halted started
      else if op0 then .reset halted started
      else if halted then .sampleHalted started
      else if started then .sample else .decodeStart := by
  revert op1 op0 halted started
  decide

/-- The row of a vector of the FIND_START group, by its fields (R86). -/
theorem decodeVector_findStart (V P ps pd pc s d c : Bool) :
    decodeVector (BitVec.ofNat 10 (vectorBits 0 V P ps pd pc s d c)) =
      if strobeFalls P ps s then (if c then .start3wCh V pd pc d else .start3wCl V pd pc d)
      else if dataFallsHigh pd d c then .start2w V P ps pc s
      else .nopStart V P ps pd pc s d c := by
  revert V P ps pd pc s d c
  decide +kernel

/-- The row of a vector of the FIND_DATA group, by its fields (R86). -/
theorem decodeVector_findData (V P ps pd pc s d c : Bool) :
    decodeVector (BitVec.ofNat 10 (vectorBits 1 V P ps pd pc s d c)) =
      if strobeRises P ps s then .stopStb V pd pc d c
      else if dataRisesHigh pd d c then .stopDat V P ps pc s
      else if clockRises pc c then (if V then .bit3w P ps pd s d else .bit2w P ps pd s d)
      else .nopData V P ps pd pc s d c := by
  revert V P ps pd pc s d c
  decide +kernel

/-- The row of a vector of the FIND_ACK group, by its fields (R86). -/
theorem decodeVector_findAck (V P ps pd pc s d c : Bool) :
    decodeVector (BitVec.ofNat 10 (vectorBits 2 V P ps pd pc s d c)) =
      if clockFalls pc c then (if d then .nack V P ps pd s else .ack V P ps pd s)
      else .nopAck V P ps pd pc s d c := by
  revert V P ps pd pc s d c
  decide +kernel

/-- The row of a vector of the FIND_STOP group, by its fields (R86). -/
theorem decodeVector_findStop (V P ps pd pc s d c : Bool) :
    decodeVector (BitVec.ofNat 10 (vectorBits 3 V P ps pd pc s d c)) =
      if strobeRises P ps s then .stopStbFs V pd pc d c
      else if dataRisesHigh pd d c then .stopDatFs V P ps pc s
      else .nopStop V P ps pd pc s d c := by
  revert V P ps pd pc s d c
  decide +kernel

namespace Machine

/-- The row a state selects from its FIND_START group. -/
theorem decodeVector_of_findStart (s : State) (h : s.state = .findStart) :
    decodeVector s.decodeVector =
      if strobeFalls s.cStb s.before.stb s.cur.stb then
        (if s.cur.clk then .start3wCh s.variant.bit s.before.dat s.before.clk s.cur.dat
          else .start3wCl s.variant.bit s.before.dat s.before.clk s.cur.dat)
      else if dataFallsHigh s.before.dat s.cur.dat s.cur.clk then
        .start2w s.variant.bit s.cStb s.before.stb s.before.clk s.cur.stb
      else .nopStart s.variant.bit s.cStb s.before.stb s.before.dat s.before.clk s.cur.stb s.cur.dat s.cur.clk := by
  unfold State.decodeVector
  rw [h]
  exact decodeVector_findStart ..

/-- The row a state selects from its FIND_DATA group. -/
theorem decodeVector_of_findData (s : State) (h : s.state = .findData) :
    decodeVector s.decodeVector =
      if strobeRises s.cStb s.before.stb s.cur.stb then
        .stopStb s.variant.bit s.before.dat s.before.clk s.cur.dat s.cur.clk
      else if dataRisesHigh s.before.dat s.cur.dat s.cur.clk then
        .stopDat s.variant.bit s.cStb s.before.stb s.before.clk s.cur.stb
      else if clockRises s.before.clk s.cur.clk then
        (if s.variant.bit then .bit3w s.cStb s.before.stb s.before.dat s.cur.stb s.cur.dat
          else .bit2w s.cStb s.before.stb s.before.dat s.cur.stb s.cur.dat)
      else .nopData s.variant.bit s.cStb s.before.stb s.before.dat s.before.clk s.cur.stb s.cur.dat s.cur.clk := by
  unfold State.decodeVector
  rw [h]
  exact decodeVector_findData ..

/-- The row a state selects from its FIND_ACK group. -/
theorem decodeVector_of_findAck (s : State) (h : s.state = .findAck) :
    decodeVector s.decodeVector =
      if clockFalls s.before.clk s.cur.clk then
        (if s.cur.dat then .nack s.variant.bit s.cStb s.before.stb s.before.dat s.cur.stb
          else .ack s.variant.bit s.cStb s.before.stb s.before.dat s.cur.stb)
      else .nopAck s.variant.bit s.cStb s.before.stb s.before.dat s.before.clk s.cur.stb s.cur.dat s.cur.clk := by
  unfold State.decodeVector
  rw [h]
  exact decodeVector_findAck ..

/-- The row a state selects from its FIND_STOP group. -/
theorem decodeVector_of_findStop (s : State) (h : s.state = .findStop) :
    decodeVector s.decodeVector =
      if strobeRises s.cStb s.before.stb s.cur.stb then
        .stopStbFs s.variant.bit s.before.dat s.before.clk s.cur.dat s.cur.clk
      else if dataRisesHigh s.before.dat s.cur.dat s.cur.clk then
        .stopDatFs s.variant.bit s.cStb s.before.stb s.before.clk s.cur.stb
      else .nopStop s.variant.bit s.cStb s.before.stb s.before.dat s.before.clk s.cur.stb s.cur.dat s.cur.clk := by
  unfold State.decodeVector
  rw [h]
  exact decodeVector_findStop ..

/-- The control row a transferred transaction selects (R89). -/
theorem selected_eq (s : State) :
    s.selected =
      if s.port.op.getLsbD 1 then .reservedOp (s.port.op.getLsbD 0) s.halted s.started
      else if s.port.op.getLsbD 0 then .reset s.halted s.started
      else if s.halted then .sampleHalted s.started
      else if s.started then .sample else .decodeStart :=
  decodeControl_controlBits ..

end Machine

end Sys2Proof
end

