-- ==== Sys2Proof/Laws/State.lean ====
section
/-! SUPPORT. What each shared operation leaves in each field of the state: one lemma per field per operation, true by rfl, so that no later proof unfolds a record update. -/

namespace Sys2Proof.Machine

section emit

variable (r : Record) (s : State)

@[simp] theorem emit_par : (emit r s).par = s.par := rfl
@[simp] theorem emit_state : (emit r s).state = s.state := rfl
@[simp] theorem emit_variant : (emit r s).variant = s.variant := rfl
@[simp] theorem emit_bitCount : (emit r s).bitCount = s.bitCount := rfl
@[simp] theorem emit_value : (emit r s).value = s.value := rfl
@[simp] theorem emit_bits : (emit r s).bits = s.bits := rfl
@[simp] theorem emit_byteCount : (emit r s).byteCount = s.byteCount := rfl
@[simp] theorem emit_byteSs : (emit r s).byteSs = s.byteSs := rfl
@[simp] theorem emit_ackSs : (emit r s).ackSs = s.ackSs := rfl
@[simp] theorem emit_pduSs : (emit r s).pduSs = s.pduSs := rfl
@[simp] theorem emit_pduBitCount : (emit r s).pduBitCount = s.pduBitCount := rfl
@[simp] theorem emit_sn : (emit r s).sn = s.sn := rfl
@[simp] theorem emit_prev : (emit r s).prev = s.prev := rfl
@[simp] theorem emit_started : (emit r s).started = s.started := rfl
@[simp] theorem emit_statusErr : (emit r s).statusErr = s.statusErr := rfl
@[simp] theorem emit_cClk : (emit r s).cClk = s.cClk := rfl
@[simp] theorem emit_cDat : (emit r s).cDat = s.cDat := rfl
@[simp] theorem emit_cStb : (emit r s).cStb = s.cStb := rfl
@[simp] theorem emit_cRate : (emit r s).cRate = s.cRate := rfl
@[simp] theorem emit_cRadix : (emit r s).cRadix = s.cRadix := rfl
@[simp] theorem emit_port : (emit r s).port = s.port := rfl
@[simp] theorem emit_inq : (emit r s).inq = s.inq := rfl
@[simp] theorem emit_outReady : (emit r s).outReady = s.outReady := rfl
@[simp] theorem emit_waiting : (emit r s).waiting = s.waiting ++ [r] := rfl
@[simp] theorem emit_sent : (emit r s).sent = s.sent := rfl

end emit

section emitAll

variable (rs : List Record) (s : State)

@[simp] theorem emitAll_par : (emitAll rs s).par = s.par := rfl
@[simp] theorem emitAll_state : (emitAll rs s).state = s.state := rfl
@[simp] theorem emitAll_variant : (emitAll rs s).variant = s.variant := rfl
@[simp] theorem emitAll_bitCount : (emitAll rs s).bitCount = s.bitCount := rfl
@[simp] theorem emitAll_value : (emitAll rs s).value = s.value := rfl
@[simp] theorem emitAll_bits : (emitAll rs s).bits = s.bits := rfl
@[simp] theorem emitAll_byteCount : (emitAll rs s).byteCount = s.byteCount := rfl
@[simp] theorem emitAll_byteSs : (emitAll rs s).byteSs = s.byteSs := rfl
@[simp] theorem emitAll_ackSs : (emitAll rs s).ackSs = s.ackSs := rfl
@[simp] theorem emitAll_pduSs : (emitAll rs s).pduSs = s.pduSs := rfl
@[simp] theorem emitAll_pduBitCount : (emitAll rs s).pduBitCount = s.pduBitCount := rfl
@[simp] theorem emitAll_sn : (emitAll rs s).sn = s.sn := rfl
@[simp] theorem emitAll_prev : (emitAll rs s).prev = s.prev := rfl
@[simp] theorem emitAll_started : (emitAll rs s).started = s.started := rfl
@[simp] theorem emitAll_statusErr : (emitAll rs s).statusErr = s.statusErr := rfl
@[simp] theorem emitAll_cClk : (emitAll rs s).cClk = s.cClk := rfl
@[simp] theorem emitAll_cDat : (emitAll rs s).cDat = s.cDat := rfl
@[simp] theorem emitAll_cStb : (emitAll rs s).cStb = s.cStb := rfl
@[simp] theorem emitAll_cRate : (emitAll rs s).cRate = s.cRate := rfl
@[simp] theorem emitAll_cRadix : (emitAll rs s).cRadix = s.cRadix := rfl
@[simp] theorem emitAll_port : (emitAll rs s).port = s.port := rfl
@[simp] theorem emitAll_inq : (emitAll rs s).inq = s.inq := rfl
@[simp] theorem emitAll_outReady : (emitAll rs s).outReady = s.outReady := rfl
@[simp] theorem emitAll_waiting : (emitAll rs s).waiting = s.waiting ++ rs := rfl
@[simp] theorem emitAll_sent : (emitAll rs s).sent = s.sent := rfl

end emitAll

section closeEntry

variable (i n : Nat) (s : State)

@[simp] theorem closeEntry_par : (closeEntry i n s).par = s.par := rfl
@[simp] theorem closeEntry_state : (closeEntry i n s).state = s.state := rfl
@[simp] theorem closeEntry_variant : (closeEntry i n s).variant = s.variant := rfl
@[simp] theorem closeEntry_bitCount : (closeEntry i n s).bitCount = s.bitCount := rfl
@[simp] theorem closeEntry_value : (closeEntry i n s).value = s.value := rfl
@[simp] theorem closeEntry_bits : (closeEntry i n s).bits = s.bits.setIfInBounds i { s.bitAt i with es := n } := rfl
@[simp] theorem closeEntry_byteCount : (closeEntry i n s).byteCount = s.byteCount := rfl
@[simp] theorem closeEntry_byteSs : (closeEntry i n s).byteSs = s.byteSs := rfl
@[simp] theorem closeEntry_ackSs : (closeEntry i n s).ackSs = s.ackSs := rfl
@[simp] theorem closeEntry_pduSs : (closeEntry i n s).pduSs = s.pduSs := rfl
@[simp] theorem closeEntry_pduBitCount : (closeEntry i n s).pduBitCount = s.pduBitCount := rfl
@[simp] theorem closeEntry_sn : (closeEntry i n s).sn = s.sn := rfl
@[simp] theorem closeEntry_prev : (closeEntry i n s).prev = s.prev := rfl
@[simp] theorem closeEntry_started : (closeEntry i n s).started = s.started := rfl
@[simp] theorem closeEntry_statusErr : (closeEntry i n s).statusErr = s.statusErr := rfl
@[simp] theorem closeEntry_cClk : (closeEntry i n s).cClk = s.cClk := rfl
@[simp] theorem closeEntry_cDat : (closeEntry i n s).cDat = s.cDat := rfl
@[simp] theorem closeEntry_cStb : (closeEntry i n s).cStb = s.cStb := rfl
@[simp] theorem closeEntry_cRate : (closeEntry i n s).cRate = s.cRate := rfl
@[simp] theorem closeEntry_cRadix : (closeEntry i n s).cRadix = s.cRadix := rfl
@[simp] theorem closeEntry_port : (closeEntry i n s).port = s.port := rfl
@[simp] theorem closeEntry_inq : (closeEntry i n s).inq = s.inq := rfl
@[simp] theorem closeEntry_outReady : (closeEntry i n s).outReady = s.outReady := rfl
@[simp] theorem closeEntry_waiting : (closeEntry i n s).waiting = s.waiting := rfl
@[simp] theorem closeEntry_sent : (closeEntry i n s).sent = s.sent := rfl

end closeEntry

section append

variable (d : Level) (n : Nat) (s : State)

@[simp] theorem append_par : (append d n s).par = s.par := rfl
@[simp] theorem append_state : (append d n s).state = s.state := rfl
@[simp] theorem append_variant : (append d n s).variant = s.variant := rfl
@[simp] theorem append_bitCount : (append d n s).bitCount = s.bitCount + 1 := rfl
@[simp] theorem append_value : (append d n s).value = s.value := rfl
@[simp] theorem append_bits : (append d n s).bits = s.bits.setIfInBounds s.bitCount.toNat { v := d, ss := n, es := n } := rfl
@[simp] theorem append_byteCount : (append d n s).byteCount = s.byteCount := rfl
@[simp] theorem append_byteSs : (append d n s).byteSs = if s.bitCount = 0 then n else s.byteSs := rfl
@[simp] theorem append_ackSs : (append d n s).ackSs = s.ackSs := rfl
@[simp] theorem append_pduSs : (append d n s).pduSs = s.pduSs := rfl
@[simp] theorem append_pduBitCount : (append d n s).pduBitCount = s.pduBitCount := rfl
@[simp] theorem append_sn : (append d n s).sn = s.sn := rfl
@[simp] theorem append_prev : (append d n s).prev = s.prev := rfl
@[simp] theorem append_started : (append d n s).started = s.started := rfl
@[simp] theorem append_statusErr : (append d n s).statusErr = s.statusErr := rfl
@[simp] theorem append_cClk : (append d n s).cClk = s.cClk := rfl
@[simp] theorem append_cDat : (append d n s).cDat = s.cDat := rfl
@[simp] theorem append_cStb : (append d n s).cStb = s.cStb := rfl
@[simp] theorem append_cRate : (append d n s).cRate = s.cRate := rfl
@[simp] theorem append_cRadix : (append d n s).cRadix = s.cRadix := rfl
@[simp] theorem append_port : (append d n s).port = s.port := rfl
@[simp] theorem append_inq : (append d n s).inq = s.inq := rfl
@[simp] theorem append_outReady : (append d n s).outReady = s.outReady := rfl
@[simp] theorem append_waiting : (append d n s).waiting = s.waiting := rfl
@[simp] theorem append_sent : (append d n s).sent = s.sent := rfl

end append

section fold

variable (d : Level) (s : State)

@[simp] theorem fold_par : (fold d s).par = s.par := rfl
@[simp] theorem fold_state : (fold d s).state = s.state := rfl
@[simp] theorem fold_variant : (fold d s).variant = s.variant := rfl
@[simp] theorem fold_bitCount : (fold d s).bitCount = s.bitCount := rfl
@[simp] theorem fold_value : (fold d s).value = foldBit s.value d := rfl
@[simp] theorem fold_bits : (fold d s).bits = s.bits := rfl
@[simp] theorem fold_byteCount : (fold d s).byteCount = s.byteCount := rfl
@[simp] theorem fold_byteSs : (fold d s).byteSs = s.byteSs := rfl
@[simp] theorem fold_ackSs : (fold d s).ackSs = s.ackSs := rfl
@[simp] theorem fold_pduSs : (fold d s).pduSs = s.pduSs := rfl
@[simp] theorem fold_pduBitCount : (fold d s).pduBitCount = s.pduBitCount := rfl
@[simp] theorem fold_sn : (fold d s).sn = s.sn := rfl
@[simp] theorem fold_prev : (fold d s).prev = s.prev := rfl
@[simp] theorem fold_started : (fold d s).started = s.started := rfl
@[simp] theorem fold_statusErr : (fold d s).statusErr = s.statusErr := rfl
@[simp] theorem fold_cClk : (fold d s).cClk = s.cClk := rfl
@[simp] theorem fold_cDat : (fold d s).cDat = s.cDat := rfl
@[simp] theorem fold_cStb : (fold d s).cStb = s.cStb := rfl
@[simp] theorem fold_cRate : (fold d s).cRate = s.cRate := rfl
@[simp] theorem fold_cRadix : (fold d s).cRadix = s.cRadix := rfl
@[simp] theorem fold_port : (fold d s).port = s.port := rfl
@[simp] theorem fold_inq : (fold d s).inq = s.inq := rfl
@[simp] theorem fold_outReady : (fold d s).outReady = s.outReady := rfl
@[simp] theorem fold_waiting : (fold d s).waiting = s.waiting := rfl
@[simp] theorem fold_sent : (fold d s).sent = s.sent := rfl

end fold

section countBit

variable (s : State)

@[simp] theorem countBit_par : (countBit s).par = s.par := rfl
@[simp] theorem countBit_state : (countBit s).state = s.state := rfl
@[simp] theorem countBit_variant : (countBit s).variant = s.variant := rfl
@[simp] theorem countBit_bitCount : (countBit s).bitCount = s.bitCount := rfl
@[simp] theorem countBit_value : (countBit s).value = s.value := rfl
@[simp] theorem countBit_bits : (countBit s).bits = s.bits := rfl
@[simp] theorem countBit_byteCount : (countBit s).byteCount = s.byteCount := rfl
@[simp] theorem countBit_byteSs : (countBit s).byteSs = s.byteSs := rfl
@[simp] theorem countBit_ackSs : (countBit s).ackSs = s.ackSs := rfl
@[simp] theorem countBit_pduSs : (countBit s).pduSs = s.pduSs := rfl
@[simp] theorem countBit_pduBitCount : (countBit s).pduBitCount = s.pduBitCount + 1 := rfl
@[simp] theorem countBit_sn : (countBit s).sn = s.sn := rfl
@[simp] theorem countBit_prev : (countBit s).prev = s.prev := rfl
@[simp] theorem countBit_started : (countBit s).started = s.started := rfl
@[simp] theorem countBit_statusErr : (countBit s).statusErr = s.statusErr := rfl
@[simp] theorem countBit_cClk : (countBit s).cClk = s.cClk := rfl
@[simp] theorem countBit_cDat : (countBit s).cDat = s.cDat := rfl
@[simp] theorem countBit_cStb : (countBit s).cStb = s.cStb := rfl
@[simp] theorem countBit_cRate : (countBit s).cRate = s.cRate := rfl
@[simp] theorem countBit_cRadix : (countBit s).cRadix = s.cRadix := rfl
@[simp] theorem countBit_port : (countBit s).port = s.port := rfl
@[simp] theorem countBit_inq : (countBit s).inq = s.inq := rfl
@[simp] theorem countBit_outReady : (countBit s).outReady = s.outReady := rfl
@[simp] theorem countBit_waiting : (countBit s).waiting = s.waiting := rfl
@[simp] theorem countBit_sent : (countBit s).sent = s.sent := rfl

end countBit

section clearAccumulator

variable (s : State)

@[simp] theorem clearAccumulator_par : (clearAccumulator s).par = s.par := rfl
@[simp] theorem clearAccumulator_state : (clearAccumulator s).state = s.state := rfl
@[simp] theorem clearAccumulator_variant : (clearAccumulator s).variant = s.variant := rfl
@[simp] theorem clearAccumulator_bitCount : (clearAccumulator s).bitCount = 0 := rfl
@[simp] theorem clearAccumulator_value : (clearAccumulator s).value = 0 := rfl
@[simp] theorem clearAccumulator_bits : (clearAccumulator s).bits = Vector.replicate 9 BitRec.empty := rfl
@[simp] theorem clearAccumulator_byteCount : (clearAccumulator s).byteCount = s.byteCount := rfl
@[simp] theorem clearAccumulator_byteSs : (clearAccumulator s).byteSs = s.byteSs := rfl
@[simp] theorem clearAccumulator_ackSs : (clearAccumulator s).ackSs = s.ackSs := rfl
@[simp] theorem clearAccumulator_pduSs : (clearAccumulator s).pduSs = s.pduSs := rfl
@[simp] theorem clearAccumulator_pduBitCount : (clearAccumulator s).pduBitCount = s.pduBitCount := rfl
@[simp] theorem clearAccumulator_sn : (clearAccumulator s).sn = s.sn := rfl
@[simp] theorem clearAccumulator_prev : (clearAccumulator s).prev = s.prev := rfl
@[simp] theorem clearAccumulator_started : (clearAccumulator s).started = s.started := rfl
@[simp] theorem clearAccumulator_statusErr : (clearAccumulator s).statusErr = s.statusErr := rfl
@[simp] theorem clearAccumulator_cClk : (clearAccumulator s).cClk = s.cClk := rfl
@[simp] theorem clearAccumulator_cDat : (clearAccumulator s).cDat = s.cDat := rfl
@[simp] theorem clearAccumulator_cStb : (clearAccumulator s).cStb = s.cStb := rfl
@[simp] theorem clearAccumulator_cRate : (clearAccumulator s).cRate = s.cRate := rfl
@[simp] theorem clearAccumulator_cRadix : (clearAccumulator s).cRadix = s.cRadix := rfl
@[simp] theorem clearAccumulator_port : (clearAccumulator s).port = s.port := rfl
@[simp] theorem clearAccumulator_inq : (clearAccumulator s).inq = s.inq := rfl
@[simp] theorem clearAccumulator_outReady : (clearAccumulator s).outReady = s.outReady := rfl
@[simp] theorem clearAccumulator_waiting : (clearAccumulator s).waiting = s.waiting := rfl
@[simp] theorem clearAccumulator_sent : (clearAccumulator s).sent = s.sent := rfl

end clearAccumulator

section raiseFatal

variable (code : BitVec 2) (s : State)

@[simp] theorem raiseFatal_par : (raiseFatal code s).par = s.par := rfl
@[simp] theorem raiseFatal_state : (raiseFatal code s).state = s.state := rfl
@[simp] theorem raiseFatal_variant : (raiseFatal code s).variant = s.variant := rfl
@[simp] theorem raiseFatal_bitCount : (raiseFatal code s).bitCount = s.bitCount := rfl
@[simp] theorem raiseFatal_value : (raiseFatal code s).value = s.value := rfl
@[simp] theorem raiseFatal_bits : (raiseFatal code s).bits = s.bits := rfl
@[simp] theorem raiseFatal_byteCount : (raiseFatal code s).byteCount = s.byteCount := rfl
@[simp] theorem raiseFatal_byteSs : (raiseFatal code s).byteSs = s.byteSs := rfl
@[simp] theorem raiseFatal_ackSs : (raiseFatal code s).ackSs = s.ackSs := rfl
@[simp] theorem raiseFatal_pduSs : (raiseFatal code s).pduSs = s.pduSs := rfl
@[simp] theorem raiseFatal_pduBitCount : (raiseFatal code s).pduBitCount = s.pduBitCount := rfl
@[simp] theorem raiseFatal_sn : (raiseFatal code s).sn = s.sn := rfl
@[simp] theorem raiseFatal_prev : (raiseFatal code s).prev = s.prev := rfl
@[simp] theorem raiseFatal_started : (raiseFatal code s).started = s.started := rfl
@[simp] theorem raiseFatal_statusErr : (raiseFatal code s).statusErr = code := rfl
@[simp] theorem raiseFatal_cClk : (raiseFatal code s).cClk = s.cClk := rfl
@[simp] theorem raiseFatal_cDat : (raiseFatal code s).cDat = s.cDat := rfl
@[simp] theorem raiseFatal_cStb : (raiseFatal code s).cStb = s.cStb := rfl
@[simp] theorem raiseFatal_cRate : (raiseFatal code s).cRate = s.cRate := rfl
@[simp] theorem raiseFatal_cRadix : (raiseFatal code s).cRadix = s.cRadix := rfl
@[simp] theorem raiseFatal_port : (raiseFatal code s).port = s.port := rfl
@[simp] theorem raiseFatal_inq : (raiseFatal code s).inq = s.inq := rfl
@[simp] theorem raiseFatal_outReady : (raiseFatal code s).outReady = s.outReady := rfl
@[simp] theorem raiseFatal_waiting : (raiseFatal code s).waiting = s.waiting := rfl
@[simp] theorem raiseFatal_sent : (raiseFatal code s).sent = s.sent := rfl

end raiseFatal

section latchPrev

variable (l : Levels) (s : State)

@[simp] theorem latchPrev_par : (latchPrev l s).par = s.par := rfl
@[simp] theorem latchPrev_state : (latchPrev l s).state = s.state := rfl
@[simp] theorem latchPrev_variant : (latchPrev l s).variant = s.variant := rfl
@[simp] theorem latchPrev_bitCount : (latchPrev l s).bitCount = s.bitCount := rfl
@[simp] theorem latchPrev_value : (latchPrev l s).value = s.value := rfl
@[simp] theorem latchPrev_bits : (latchPrev l s).bits = s.bits := rfl
@[simp] theorem latchPrev_byteCount : (latchPrev l s).byteCount = s.byteCount := rfl
@[simp] theorem latchPrev_byteSs : (latchPrev l s).byteSs = s.byteSs := rfl
@[simp] theorem latchPrev_ackSs : (latchPrev l s).ackSs = s.ackSs := rfl
@[simp] theorem latchPrev_pduSs : (latchPrev l s).pduSs = s.pduSs := rfl
@[simp] theorem latchPrev_pduBitCount : (latchPrev l s).pduBitCount = s.pduBitCount := rfl
@[simp] theorem latchPrev_sn : (latchPrev l s).sn = s.sn := rfl
@[simp] theorem latchPrev_prev : (latchPrev l s).prev = some l := rfl
@[simp] theorem latchPrev_started : (latchPrev l s).started = s.started := rfl
@[simp] theorem latchPrev_statusErr : (latchPrev l s).statusErr = s.statusErr := rfl
@[simp] theorem latchPrev_cClk : (latchPrev l s).cClk = s.cClk := rfl
@[simp] theorem latchPrev_cDat : (latchPrev l s).cDat = s.cDat := rfl
@[simp] theorem latchPrev_cStb : (latchPrev l s).cStb = s.cStb := rfl
@[simp] theorem latchPrev_cRate : (latchPrev l s).cRate = s.cRate := rfl
@[simp] theorem latchPrev_cRadix : (latchPrev l s).cRadix = s.cRadix := rfl
@[simp] theorem latchPrev_port : (latchPrev l s).port = s.port := rfl
@[simp] theorem latchPrev_inq : (latchPrev l s).inq = s.inq := rfl
@[simp] theorem latchPrev_outReady : (latchPrev l s).outReady = s.outReady := rfl
@[simp] theorem latchPrev_waiting : (latchPrev l s).waiting = s.waiting := rfl
@[simp] theorem latchPrev_sent : (latchPrev l s).sent = s.sent := rfl

end latchPrev

section latchConfig

variable (s : State)

@[simp] theorem latchConfig_par : (latchConfig s).par = s.par := rfl
@[simp] theorem latchConfig_state : (latchConfig s).state = s.state := rfl
@[simp] theorem latchConfig_variant : (latchConfig s).variant = s.variant := rfl
@[simp] theorem latchConfig_bitCount : (latchConfig s).bitCount = s.bitCount := rfl
@[simp] theorem latchConfig_value : (latchConfig s).value = s.value := rfl
@[simp] theorem latchConfig_bits : (latchConfig s).bits = s.bits := rfl
@[simp] theorem latchConfig_byteCount : (latchConfig s).byteCount = s.byteCount := rfl
@[simp] theorem latchConfig_byteSs : (latchConfig s).byteSs = s.byteSs := rfl
@[simp] theorem latchConfig_ackSs : (latchConfig s).ackSs = s.ackSs := rfl
@[simp] theorem latchConfig_pduSs : (latchConfig s).pduSs = s.pduSs := rfl
@[simp] theorem latchConfig_pduBitCount : (latchConfig s).pduBitCount = s.pduBitCount := rfl
@[simp] theorem latchConfig_sn : (latchConfig s).sn = s.sn := rfl
@[simp] theorem latchConfig_prev : (latchConfig s).prev = s.prev := rfl
@[simp] theorem latchConfig_started : (latchConfig s).started = true := rfl
@[simp] theorem latchConfig_statusErr : (latchConfig s).statusErr = s.statusErr := rfl
@[simp] theorem latchConfig_cClk : (latchConfig s).cClk = s.port.cfgClk := rfl
@[simp] theorem latchConfig_cDat : (latchConfig s).cDat = s.port.cfgDat := rfl
@[simp] theorem latchConfig_cStb : (latchConfig s).cStb = s.port.cfgStb := rfl
@[simp] theorem latchConfig_cRate : (latchConfig s).cRate = s.cfgSamplerate := rfl
@[simp] theorem latchConfig_cRadix : (latchConfig s).cRadix = s.port.cfgRadix := rfl
@[simp] theorem latchConfig_port : (latchConfig s).port = s.port := rfl
@[simp] theorem latchConfig_inq : (latchConfig s).inq = s.inq := rfl
@[simp] theorem latchConfig_outReady : (latchConfig s).outReady = s.outReady := rfl
@[simp] theorem latchConfig_waiting : (latchConfig s).waiting = s.waiting := rfl
@[simp] theorem latchConfig_sent : (latchConfig s).sent = s.sent := rfl

end latchConfig

section accept

variable (q : Request) (rest : List Request) (s : State)

@[simp] theorem accept_par : (accept q rest s).par = s.par := rfl
@[simp] theorem accept_state : (accept q rest s).state = s.state := rfl
@[simp] theorem accept_variant : (accept q rest s).variant = s.variant := rfl
@[simp] theorem accept_bitCount : (accept q rest s).bitCount = s.bitCount := rfl
@[simp] theorem accept_value : (accept q rest s).value = s.value := rfl
@[simp] theorem accept_bits : (accept q rest s).bits = s.bits := rfl
@[simp] theorem accept_byteCount : (accept q rest s).byteCount = s.byteCount := rfl
@[simp] theorem accept_byteSs : (accept q rest s).byteSs = s.byteSs := rfl
@[simp] theorem accept_ackSs : (accept q rest s).ackSs = s.ackSs := rfl
@[simp] theorem accept_pduSs : (accept q rest s).pduSs = s.pduSs := rfl
@[simp] theorem accept_pduBitCount : (accept q rest s).pduBitCount = s.pduBitCount := rfl
@[simp] theorem accept_sn : (accept q rest s).sn = s.sn := rfl
@[simp] theorem accept_prev : (accept q rest s).prev = s.prev := rfl
@[simp] theorem accept_started : (accept q rest s).started = s.started := rfl
@[simp] theorem accept_statusErr : (accept q rest s).statusErr = s.statusErr := rfl
@[simp] theorem accept_cClk : (accept q rest s).cClk = s.cClk := rfl
@[simp] theorem accept_cDat : (accept q rest s).cDat = s.cDat := rfl
@[simp] theorem accept_cStb : (accept q rest s).cStb = s.cStb := rfl
@[simp] theorem accept_cRate : (accept q rest s).cRate = s.cRate := rfl
@[simp] theorem accept_cRadix : (accept q rest s).cRadix = s.cRadix := rfl
@[simp] theorem accept_port : (accept q rest s).port = q := rfl
@[simp] theorem accept_inq : (accept q rest s).inq = rest := rfl
@[simp] theorem accept_outReady : (accept q rest s).outReady = s.outReady := rfl
@[simp] theorem accept_waiting : (accept q rest s).waiting = s.waiting := rfl
@[simp] theorem accept_sent : (accept q rest s).sent = s.sent := rfl

end accept

section nextSample

variable (s : State)

@[simp] theorem nextSample_par : (nextSample s).par = s.par := rfl
@[simp] theorem nextSample_state : (nextSample s).state = s.state := rfl
@[simp] theorem nextSample_variant : (nextSample s).variant = s.variant := rfl
@[simp] theorem nextSample_bitCount : (nextSample s).bitCount = s.bitCount := rfl
@[simp] theorem nextSample_value : (nextSample s).value = s.value := rfl
@[simp] theorem nextSample_bits : (nextSample s).bits = s.bits := rfl
@[simp] theorem nextSample_byteCount : (nextSample s).byteCount = s.byteCount := rfl
@[simp] theorem nextSample_byteSs : (nextSample s).byteSs = s.byteSs := rfl
@[simp] theorem nextSample_ackSs : (nextSample s).ackSs = s.ackSs := rfl
@[simp] theorem nextSample_pduSs : (nextSample s).pduSs = s.pduSs := rfl
@[simp] theorem nextSample_pduBitCount : (nextSample s).pduBitCount = s.pduBitCount := rfl
@[simp] theorem nextSample_sn : (nextSample s).sn = s.sn + 1 := rfl
@[simp] theorem nextSample_prev : (nextSample s).prev = s.prev := rfl
@[simp] theorem nextSample_started : (nextSample s).started = s.started := rfl
@[simp] theorem nextSample_statusErr : (nextSample s).statusErr = s.statusErr := rfl
@[simp] theorem nextSample_cClk : (nextSample s).cClk = s.cClk := rfl
@[simp] theorem nextSample_cDat : (nextSample s).cDat = s.cDat := rfl
@[simp] theorem nextSample_cStb : (nextSample s).cStb = s.cStb := rfl
@[simp] theorem nextSample_cRate : (nextSample s).cRate = s.cRate := rfl
@[simp] theorem nextSample_cRadix : (nextSample s).cRadix = s.cRadix := rfl
@[simp] theorem nextSample_port : (nextSample s).port = s.port := rfl
@[simp] theorem nextSample_inq : (nextSample s).inq = s.inq := rfl
@[simp] theorem nextSample_outReady : (nextSample s).outReady = s.outReady := rfl
@[simp] theorem nextSample_waiting : (nextSample s).waiting = s.waiting := rfl
@[simp] theorem nextSample_sent : (nextSample s).sent = s.sent := rfl

end nextSample

section firstSample

variable (s : State)

@[simp] theorem firstSample_par : (firstSample s).par = s.par := rfl
@[simp] theorem firstSample_state : (firstSample s).state = s.state := rfl
@[simp] theorem firstSample_variant : (firstSample s).variant = s.variant := rfl
@[simp] theorem firstSample_bitCount : (firstSample s).bitCount = s.bitCount := rfl
@[simp] theorem firstSample_value : (firstSample s).value = s.value := rfl
@[simp] theorem firstSample_bits : (firstSample s).bits = s.bits := rfl
@[simp] theorem firstSample_byteCount : (firstSample s).byteCount = s.byteCount := rfl
@[simp] theorem firstSample_byteSs : (firstSample s).byteSs = s.byteSs := rfl
@[simp] theorem firstSample_ackSs : (firstSample s).ackSs = s.ackSs := rfl
@[simp] theorem firstSample_pduSs : (firstSample s).pduSs = s.pduSs := rfl
@[simp] theorem firstSample_pduBitCount : (firstSample s).pduBitCount = s.pduBitCount := rfl
@[simp] theorem firstSample_sn : (firstSample s).sn = 0 := rfl
@[simp] theorem firstSample_prev : (firstSample s).prev = some s.initialPrev := rfl
@[simp] theorem firstSample_started : (firstSample s).started = s.started := rfl
@[simp] theorem firstSample_statusErr : (firstSample s).statusErr = s.statusErr := rfl
@[simp] theorem firstSample_cClk : (firstSample s).cClk = s.cClk := rfl
@[simp] theorem firstSample_cDat : (firstSample s).cDat = s.cDat := rfl
@[simp] theorem firstSample_cStb : (firstSample s).cStb = s.cStb := rfl
@[simp] theorem firstSample_cRate : (firstSample s).cRate = s.cRate := rfl
@[simp] theorem firstSample_cRadix : (firstSample s).cRadix = s.cRadix := rfl
@[simp] theorem firstSample_port : (firstSample s).port = s.port := rfl
@[simp] theorem firstSample_inq : (firstSample s).inq = s.inq := rfl
@[simp] theorem firstSample_outReady : (firstSample s).outReady = s.outReady := rfl
@[simp] theorem firstSample_waiting : (firstSample s).waiting = s.waiting := rfl
@[simp] theorem firstSample_sent : (firstSample s).sent = s.sent := rfl

end firstSample

section answer

variable (k : Kind) (s : State)

@[simp] theorem answer_par : (answer k s).par = s.par := rfl
@[simp] theorem answer_state : (answer k s).state = .findData := rfl
@[simp] theorem answer_variant : (answer k s).variant = s.variant := rfl
@[simp] theorem answer_bitCount : (answer k s).bitCount = s.bitCount := rfl
@[simp] theorem answer_value : (answer k s).value = s.value := rfl
@[simp] theorem answer_bits : (answer k s).bits = s.bits := rfl
@[simp] theorem answer_byteCount : (answer k s).byteCount = s.byteCount := rfl
@[simp] theorem answer_byteSs : (answer k s).byteSs = s.byteSs := rfl
@[simp] theorem answer_ackSs : (answer k s).ackSs = s.ackSs := rfl
@[simp] theorem answer_pduSs : (answer k s).pduSs = s.pduSs := rfl
@[simp] theorem answer_pduBitCount : (answer k s).pduBitCount = s.pduBitCount := rfl
@[simp] theorem answer_sn : (answer k s).sn = s.sn := rfl
@[simp] theorem answer_prev : (answer k s).prev = s.prev := rfl
@[simp] theorem answer_started : (answer k s).started = s.started := rfl
@[simp] theorem answer_statusErr : (answer k s).statusErr = s.statusErr := rfl
@[simp] theorem answer_cClk : (answer k s).cClk = s.cClk := rfl
@[simp] theorem answer_cDat : (answer k s).cDat = s.cDat := rfl
@[simp] theorem answer_cStb : (answer k s).cStb = s.cStb := rfl
@[simp] theorem answer_cRate : (answer k s).cRate = s.cRate := rfl
@[simp] theorem answer_cRadix : (answer k s).cRadix = s.cRadix := rfl
@[simp] theorem answer_port : (answer k s).port = s.port := rfl
@[simp] theorem answer_inq : (answer k s).inq = s.inq := rfl
@[simp] theorem answer_outReady : (answer k s).outReady = s.outReady := rfl
@[simp] theorem answer_waiting : (answer k s).waiting = s.waiting ++ [{ kind := k, ss := s.ackSs, es := s.sn }] := rfl
@[simp] theorem answer_sent : (answer k s).sent = s.sent := rfl

end answer

section emitByte

variable (n : Nat) (s : State)

@[simp] theorem emitByte_par : (emitByte n s).par = s.par := rfl
@[simp] theorem emitByte_state : (emitByte n s).state = s.state := rfl
@[simp] theorem emitByte_variant : (emitByte n s).variant = s.variant := rfl
@[simp] theorem emitByte_bitCount : (emitByte n s).bitCount = s.bitCount := rfl
@[simp] theorem emitByte_value : (emitByte n s).value = s.value := rfl
@[simp] theorem emitByte_bits : (emitByte n s).bits = s.bits := rfl
@[simp] theorem emitByte_byteCount : (emitByte n s).byteCount = saturate s.par.wBc (s.byteCount + 1) := rfl
@[simp] theorem emitByte_byteSs : (emitByte n s).byteSs = s.byteSs := rfl
@[simp] theorem emitByte_ackSs : (emitByte n s).ackSs = s.ackSs := rfl
@[simp] theorem emitByte_pduSs : (emitByte n s).pduSs = s.pduSs := rfl
@[simp] theorem emitByte_pduBitCount : (emitByte n s).pduBitCount = s.pduBitCount := rfl
@[simp] theorem emitByte_sn : (emitByte n s).sn = s.sn := rfl
@[simp] theorem emitByte_prev : (emitByte n s).prev = s.prev := rfl
@[simp] theorem emitByte_started : (emitByte n s).started = s.started := rfl
@[simp] theorem emitByte_statusErr : (emitByte n s).statusErr = s.statusErr := rfl
@[simp] theorem emitByte_cClk : (emitByte n s).cClk = s.cClk := rfl
@[simp] theorem emitByte_cDat : (emitByte n s).cDat = s.cDat := rfl
@[simp] theorem emitByte_cStb : (emitByte n s).cStb = s.cStb := rfl
@[simp] theorem emitByte_cRate : (emitByte n s).cRate = s.cRate := rfl
@[simp] theorem emitByte_cRadix : (emitByte n s).cRadix = s.cRadix := rfl
@[simp] theorem emitByte_port : (emitByte n s).port = s.port := rfl
@[simp] theorem emitByte_inq : (emitByte n s).inq = s.inq := rfl
@[simp] theorem emitByte_outReady : (emitByte n s).outReady = s.outReady := rfl
@[simp] theorem emitByte_waiting : (emitByte n s).waiting = s.waiting ++ [byteRecord n s] := rfl
@[simp] theorem emitByte_sent : (emitByte n s).sent = s.sent := rfl

end emitByte

section startHandler

variable (s : State)

@[simp] theorem startHandler_par : (startHandler s).par = s.par := rfl
@[simp] theorem startHandler_state : (startHandler s).state = .findData := rfl
@[simp] theorem startHandler_variant : (startHandler s).variant = s.variant := rfl
@[simp] theorem startHandler_bitCount : (startHandler s).bitCount = 0 := rfl
@[simp] theorem startHandler_value : (startHandler s).value = 0 := rfl
@[simp] theorem startHandler_bits : (startHandler s).bits = Vector.replicate 9 BitRec.empty := rfl
@[simp] theorem startHandler_byteCount : (startHandler s).byteCount = 0 := rfl
@[simp] theorem startHandler_byteSs : (startHandler s).byteSs = s.byteSs := rfl
@[simp] theorem startHandler_ackSs : (startHandler s).ackSs = s.ackSs := rfl
@[simp] theorem startHandler_pduSs : (startHandler s).pduSs = s.sn := rfl
@[simp] theorem startHandler_pduBitCount : (startHandler s).pduBitCount = 0 := rfl
@[simp] theorem startHandler_sn : (startHandler s).sn = s.sn := rfl
@[simp] theorem startHandler_prev : (startHandler s).prev = s.prev := rfl
@[simp] theorem startHandler_started : (startHandler s).started = s.started := rfl
@[simp] theorem startHandler_statusErr : (startHandler s).statusErr = s.statusErr := rfl
@[simp] theorem startHandler_cClk : (startHandler s).cClk = s.cClk := rfl
@[simp] theorem startHandler_cDat : (startHandler s).cDat = s.cDat := rfl
@[simp] theorem startHandler_cStb : (startHandler s).cStb = s.cStb := rfl
@[simp] theorem startHandler_cRate : (startHandler s).cRate = s.cRate := rfl
@[simp] theorem startHandler_cRadix : (startHandler s).cRadix = s.cRadix := rfl
@[simp] theorem startHandler_port : (startHandler s).port = s.port := rfl
@[simp] theorem startHandler_inq : (startHandler s).inq = s.inq := rfl
@[simp] theorem startHandler_outReady : (startHandler s).outReady = s.outReady := rfl
@[simp] theorem startHandler_waiting : (startHandler s).waiting = s.waiting ++ [{ kind := .start, ss := s.sn, es := s.sn }] := rfl
@[simp] theorem startHandler_sent : (startHandler s).sent = s.sent := rfl

end startHandler

section byteComplete2w

variable (s : State)

@[simp] theorem byteComplete2w_par : (byteComplete2w s).par = s.par := rfl
@[simp] theorem byteComplete2w_state : (byteComplete2w s).state = .findAck := rfl
@[simp] theorem byteComplete2w_variant : (byteComplete2w s).variant = s.variant := rfl
@[simp] theorem byteComplete2w_bitCount : (byteComplete2w s).bitCount = 0 := rfl
@[simp] theorem byteComplete2w_value : (byteComplete2w s).value = 0 := rfl
@[simp] theorem byteComplete2w_bits : (byteComplete2w s).bits = Vector.replicate 9 BitRec.empty := rfl
@[simp] theorem byteComplete2w_byteCount : (byteComplete2w s).byteCount = saturate s.par.wBc (s.byteCount + 1) := rfl
@[simp] theorem byteComplete2w_byteSs : (byteComplete2w s).byteSs = s.byteSs := rfl
@[simp] theorem byteComplete2w_ackSs : (byteComplete2w s).ackSs = (s.bitAt 7).es := rfl
@[simp] theorem byteComplete2w_pduSs : (byteComplete2w s).pduSs = s.pduSs := rfl
@[simp] theorem byteComplete2w_pduBitCount : (byteComplete2w s).pduBitCount = s.pduBitCount := rfl
@[simp] theorem byteComplete2w_sn : (byteComplete2w s).sn = s.sn := rfl
@[simp] theorem byteComplete2w_prev : (byteComplete2w s).prev = s.prev := rfl
@[simp] theorem byteComplete2w_started : (byteComplete2w s).started = s.started := rfl
@[simp] theorem byteComplete2w_statusErr : (byteComplete2w s).statusErr = s.statusErr := rfl
@[simp] theorem byteComplete2w_cClk : (byteComplete2w s).cClk = s.cClk := rfl
@[simp] theorem byteComplete2w_cDat : (byteComplete2w s).cDat = s.cDat := rfl
@[simp] theorem byteComplete2w_cStb : (byteComplete2w s).cStb = s.cStb := rfl
@[simp] theorem byteComplete2w_cRate : (byteComplete2w s).cRate = s.cRate := rfl
@[simp] theorem byteComplete2w_cRadix : (byteComplete2w s).cRadix = s.cRadix := rfl
@[simp] theorem byteComplete2w_port : (byteComplete2w s).port = s.port := rfl
@[simp] theorem byteComplete2w_inq : (byteComplete2w s).inq = s.inq := rfl
@[simp] theorem byteComplete2w_outReady : (byteComplete2w s).outReady = s.outReady := rfl
@[simp] theorem byteComplete2w_waiting : (byteComplete2w s).waiting = s.waiting ++ [byteRecord 8 s] := rfl
@[simp] theorem byteComplete2w_sent : (byteComplete2w s).sent = s.sent := rfl

end byteComplete2w

section resetRegisters

variable (s : State)

@[simp] theorem resetRegisters_par : (resetRegisters s).par = s.par := rfl
@[simp] theorem resetRegisters_state : (resetRegisters s).state = .findStart := rfl
@[simp] theorem resetRegisters_variant : (resetRegisters s).variant = .twoWire := rfl
@[simp] theorem resetRegisters_bitCount : (resetRegisters s).bitCount = 0 := rfl
@[simp] theorem resetRegisters_value : (resetRegisters s).value = 0 := rfl
@[simp] theorem resetRegisters_bits : (resetRegisters s).bits = Vector.replicate 9 BitRec.empty := rfl
@[simp] theorem resetRegisters_byteCount : (resetRegisters s).byteCount = 0 := rfl
@[simp] theorem resetRegisters_byteSs : (resetRegisters s).byteSs = s.par.byteSsReset := rfl
@[simp] theorem resetRegisters_ackSs : (resetRegisters s).ackSs = 0 := rfl
@[simp] theorem resetRegisters_pduSs : (resetRegisters s).pduSs = 0 := rfl
@[simp] theorem resetRegisters_pduBitCount : (resetRegisters s).pduBitCount = 0 := rfl
@[simp] theorem resetRegisters_sn : (resetRegisters s).sn = 0 := rfl
@[simp] theorem resetRegisters_prev : (resetRegisters s).prev = none := rfl
@[simp] theorem resetRegisters_started : (resetRegisters s).started = false := rfl
@[simp] theorem resetRegisters_statusErr : (resetRegisters s).statusErr = 0 := rfl
@[simp] theorem resetRegisters_cClk : (resetRegisters s).cClk = false := rfl
@[simp] theorem resetRegisters_cDat : (resetRegisters s).cDat = false := rfl
@[simp] theorem resetRegisters_cStb : (resetRegisters s).cStb = false := rfl
@[simp] theorem resetRegisters_cRate : (resetRegisters s).cRate = 0 := rfl
@[simp] theorem resetRegisters_cRadix : (resetRegisters s).cRadix = 0 := rfl
@[simp] theorem resetRegisters_port : (resetRegisters s).port = s.port := rfl
@[simp] theorem resetRegisters_inq : (resetRegisters s).inq = s.inq := rfl
@[simp] theorem resetRegisters_outReady : (resetRegisters s).outReady = s.outReady := rfl
@[simp] theorem resetRegisters_waiting : (resetRegisters s).waiting = s.waiting := rfl
@[simp] theorem resetRegisters_sent : (resetRegisters s).sent = s.sent := rfl

end resetRegisters

end Sys2Proof.Machine
end

