-- ==== Sys2Proof/Laws/Ops.lean ====
section
/-! SUPPORT. What each shared operation can do, said once: the entries of the bit buffer after it, what a flush, a stop or a data-handler call leaves, and when an operation answers a next state. -/

namespace Sys2Proof.Machine

/-! Entries of the bit buffer. -/

/-- The entry read from a buffer after one entry is written. -/
theorem getD_setIfInBounds (v : Vector BitRec 9) (i j : Nat) (b : BitRec) :
    ((v.setIfInBounds i b)[j]?).getD BitRec.empty = if i = j ∧ j < 9 then b else (v[j]?).getD BitRec.empty := by
  by_cases hj : j < 9
  · by_cases hi : i = j
    · subst hi
      simp [hj]
    · simp [hj, hi]
  · simp [hj]

/-- The entries after the pending bit is closed (R141). -/
theorem closeEntry_bitAt (i n j : Nat) (s : State) :
    (closeEntry i n s).bitAt j = if i = j ∧ j < 9 then { s.bitAt i with es := n } else s.bitAt j :=
  getD_setIfInBounds ..

/-- The entries after a bit is appended (R141). -/
theorem append_bitAt (d : Level) (n j : Nat) (s : State) :
    (append d n s).bitAt j = if s.bitCount.toNat = j ∧ j < 9 then { v := d, ss := n, es := n } else s.bitAt j :=
  getD_setIfInBounds ..

/-- Every entry of a cleared buffer is empty. -/
@[simp] theorem replicate_getD_empty (j : Nat) :
    ((Vector.replicate 9 BitRec.empty)[j]?).getD BitRec.empty = BitRec.empty := by
  by_cases hj : j < 9 <;> simp [hj]

/-- The entries after the accumulator is cleared. -/
theorem clearAccumulator_bitAt (j : Nat) (s : State) : (clearAccumulator s).bitAt j = BitRec.empty :=
  replicate_getD_empty j

/-! Operations with a choice in them. -/

/-- With no bit held, CLOSE_PREV does nothing (R141). -/
theorem closePrev_of_zero (n : Nat) (s : State) (h : s.bitCount = 0) : closePrev n s = s := by
  simp [closePrev, h]

/-- With a bit held, CLOSE_PREV closes the newest one (R141). -/
theorem closePrev_of_pos (n : Nat) (s : State) (h : 1 ≤ s.bitCount.toNat) :
    closePrev n s = closeEntry (s.bitCount.toNat - 1) n s := if_pos h

/-- CLOSE_PREV writes the buffer alone. -/
theorem closePrev_frame (n : Nat) (s : State) : closePrev n s = { s with bits := (closePrev n s).bits } := by
  unfold closePrev
  split <;> rfl

/-- An empty flush is a no-op (R162). -/
theorem flush_of_zero (s : State) (h : s.bitCount = 0) : flush s = s := if_pos h

/-- A flush of a non-empty accumulator (R162): what it writes, and that it writes nothing else. -/
theorem flush_of_pos (s : State) (h : s.bitCount ≠ 0) :
    flush s =
      { s with
        bitCount := 0
        value := 0
        bits := Vector.replicate 9 BitRec.empty
        byteCount := saturate s.par.wBc (s.byteCount + 1)
        waiting := s.waiting ++ (closePrev s.sn s).validBits.map bitRecord ++
          [byteRecord s.bitCount.toNat (closePrev s.sn s)] } := by
  have hpos : 1 ≤ s.bitCount.toNat := by
    rcases Nat.eq_zero_or_pos s.bitCount.toNat with h0 | h0
    · exact absurd (BitVec.eq_of_toNat_eq (by simpa using h0)) h
    · exact h0
  simp only [flush, if_neg h, closePrev_of_pos _ _ hpos]
  rfl

/-- TIMING_REPORT with `k = 0` reports nothing (R180, R181). -/
theorem timingReport_of_zero (s : State) (h : s.elapsed = 0) : timingReport s = s := if_pos h

/-- TIMING_REPORT with `k > 0` emits one record (R180). -/
theorem timingReport_of_pos (s : State) (h : s.elapsed ≠ 0) :
    timingReport s = emit { kind := .bitrate, ss := s.byteSs, es := s.sn, rate := s.bitrate } s := if_neg h

/-- TIMING_REPORT appends at most one record and writes nothing else. -/
theorem timingReport_frame (s : State) :
    ∃ rs : List Record, rs.length ≤ 1 ∧ timingReport s = { s with waiting := s.waiting ++ rs } := by
  by_cases h : s.elapsed = 0
  · exact ⟨[], by simp, by simp [timingReport_of_zero s h]⟩
  · exact ⟨[_], by simp, timingReport_of_pos s h⟩

/-- What is left after the bitrate and the STOP record (R108). -/
theorem finishStop_eq (s : State) :
    finishStop s =
      { s with
        bitCount := 0
        value := 0
        bits := Vector.replicate 9 BitRec.empty
        waiting := (timingReport s).waiting ++ [{ kind := .stop, ss := s.sn, es := s.sn }]
        state := .findStart } := by
  obtain ⟨rs, -, h⟩ := timingReport_frame s
  simp only [finishStop, h]
  rfl

/-- A stop answers a next state in a 2-wire session always, and in a 3-wire session when `bit_count` is at most 8; and
then the flush, if any, and the end of the handler are all it does (R108). -/
theorem stopHandler_next (s t : State) (h : stopHandler s = .next t) :
    (s.variant = .twoWire ∧ t = finishStop s) ∨
      (s.variant = .threeWire ∧ s.bitCount.toNat ≤ 8 ∧ t = finishStop (flush s)) := by
  unfold stopHandler at h
  split at h
  · next hv => exact .inl ⟨hv, (Host.Outcome.next.inj h).symm⟩
  · next hv =>
    split at h
    · next hl => exact .inr ⟨hv, by simpa [State.bitCountLegal] using hl, (Host.Outcome.next.inj h).symm⟩
    · cases h

/-- When BIT_2W answers a next state, and which (R143). -/
theorem execBit2w_next (d : Level) (s t : State) (h : execBit2w d s = .next t) :
    s.bitCount.toNat ≤ 9 ∧ t = foldOrComplete d (append d s.sn (closeAndReport (countBit s))) := by
  unfold execBit2w at h
  split at h
  · next hl => exact ⟨hl, (Host.Outcome.next.inj h).symm⟩
  · cases h

/-- When BIT_3W answers a next state, and which (R145). -/
theorem execBit3w_next (d : Level) (s t : State) (h : execBit3w d s = .next t) :
    s.bitCount.toNat ≤ 8 ∧ t = fold d (append d s.sn (closePrev s.sn (flushIfFull (countBit s)))) := by
  unfold execBit3w at h
  split at h
  · next hl => exact ⟨by simpa [State.bitCountLegal] using hl, (Host.Outcome.next.inj h).symm⟩
  · cases h

/-! Outcomes. -/

/-- Going on from an outcome answers a next state only from a next state. -/
theorem mapNext_next (f : State → State) (o : Outcome) (t : State) (h : mapNext f o = .next t) :
    ∃ u, o = .next u ∧ t = f u := by
  cases o with
  | next u => exact ⟨u, rfl, (Host.Outcome.next.inj h).symm⟩
  | fault r => cases h
  | refused r => cases h

@[simp] theorem mapNext_of_next (f : State → State) (s : State) : mapNext f (.next s) = .next (f s) := rfl

@[simp] theorem mapNext_of_refused (f : State → State) (r : Refusal) : mapNext f (.refused r) = .refused r := rfl

/-- EVAL answers a next state when the selected row does, and then `prev` is the current sample (R100). -/
theorem eval_next (s t : State) (h : eval s = .next t) :
    ∃ u, performRow (Sys2Proof.decodeVector s.decodeVector) s = .next u ∧ t = latchPrev s.cur u :=
  mapNext_next _ _ _ h

/-- SAMPLE answers a next state below the last sample index only (R100, R236). -/
theorem execSample_next (s t : State) (h : execSample s = .next t) :
    s.sn < s.lastSample ∧ eval (nextSample s) = .next t := by
  unfold execSample at h
  split at h
  · next hl => exact ⟨hl, h⟩
  · cases h

/-- The three ways DECODE_START goes (R201). -/
theorem execDecodeStart_next (s t : State) (h : execDecodeStart s = .next t) :
    ((s.port.cfgClk = false ∨ s.port.cfgDat = false) ∧ t = raiseFatal errMissingChannel (latchConfig s)) ∨
      (s.cfgSamplerate = 0 ∧ t = raiseFatal errNoSamplerate (latchConfig s)) ∨
      (s.port.cfgClk = true ∧ s.port.cfgDat = true ∧ s.cfgSamplerate ≠ 0 ∧
        eval (firstSample (latchConfig s)) = .next t) := by
  unfold execDecodeStart checkAndRun at h
  split at h
  · next hc => exact .inl ⟨hc, (Host.Outcome.next.inj h).symm⟩
  · next hc =>
    simp only [latchConfig_cClk, latchConfig_cDat, not_or, Bool.not_eq_false] at hc
    split at h
    · next hr => exact .inr (.inl ⟨hr, (Host.Outcome.next.inj h).symm⟩)
    · next hr => exact .inr (.inr ⟨hc.1, hc.2, hr, h⟩)

end Sys2Proof.Machine
end

