-- ==== Sys2Proof/Laws/PerInstr.lean ====
section
/-! SUPPORT. For every instruction: the word the encoder writes matches the mask and pattern that spec/opcode_table.json gives its row. -/

namespace Sys2Proof.Laws.RowMatch

/-- The mask and match of a row, as spec/opcode_table.json lists them. -/
def maskAndMatch : Instr → Nat × Nat
  | .start3wCh _ _ _ _ => (0x365, 0x061)
  | .start3wCl _ _ _ _ => (0x365, 0x060)
  | .start2w _ _ _ _ _ => (0x313, 0x011)
  | .nopStart _ _ _ _ _ _ _ _ => (0x300, 0x000)
  | .stopStb _ _ _ _ _ => (0x364, 0x144)
  | .stopDat _ _ _ _ _ => (0x313, 0x103)
  | .bit2w _ _ _ _ _ => (0x389, 0x101)
  | .bit3w _ _ _ _ _ => (0x389, 0x181)
  | .nopData _ _ _ _ _ _ _ _ => (0x300, 0x100)
  | .ack _ _ _ _ _ => (0x30B, 0x208)
  | .nack _ _ _ _ _ => (0x30B, 0x20A)
  | .nopAck _ _ _ _ _ _ _ _ => (0x300, 0x200)
  | .stopStbFs _ _ _ _ _ => (0x364, 0x344)
  | .stopDatFs _ _ _ _ _ => (0x313, 0x303)
  | .nopStop _ _ _ _ _ _ _ _ => (0x300, 0x300)
  | .reset _ _ => (0xC, 0x4)
  | .reservedOp _ _ _ => (0x8, 0x8)
  | .sampleHalted _ => (0xE, 0x2)
  | .decodeStart => (0xF, 0x0)
  | .sample => (0xF, 0x1)

/-- The encoder's word has the row's fixed bits. -/
def Statement (i : Instr) : Prop := encode i &&& (maskAndMatch i).1 = (maskAndMatch i).2

theorem start3wCh (V pd pc d : Bool) : Statement (.start3wCh V pd pc d) := by
  unfold Statement; revert V pd pc d; decide

theorem start3wCl (V pd pc d : Bool) : Statement (.start3wCl V pd pc d) := by
  unfold Statement; revert V pd pc d; decide

theorem start2w (V P ps pc s : Bool) : Statement (.start2w V P ps pc s) := by
  unfold Statement; revert V P ps pc s; decide

theorem nopStart (V P ps pd pc s d c : Bool) : Statement (.nopStart V P ps pd pc s d c) := by
  unfold Statement; revert V P ps pd pc s d c; decide

theorem stopStb (V pd pc d c : Bool) : Statement (.stopStb V pd pc d c) := by
  unfold Statement; revert V pd pc d c; decide

theorem stopDat (V P ps pc s : Bool) : Statement (.stopDat V P ps pc s) := by
  unfold Statement; revert V P ps pc s; decide

theorem bit2w (P ps pd s d : Bool) : Statement (.bit2w P ps pd s d) := by
  unfold Statement; revert P ps pd s d; decide

theorem bit3w (P ps pd s d : Bool) : Statement (.bit3w P ps pd s d) := by
  unfold Statement; revert P ps pd s d; decide

theorem nopData (V P ps pd pc s d c : Bool) : Statement (.nopData V P ps pd pc s d c) := by
  unfold Statement; revert V P ps pd pc s d c; decide

theorem ack (V P ps pd s : Bool) : Statement (.ack V P ps pd s) := by
  unfold Statement; revert V P ps pd s; decide

theorem nack (V P ps pd s : Bool) : Statement (.nack V P ps pd s) := by
  unfold Statement; revert V P ps pd s; decide

theorem nopAck (V P ps pd pc s d c : Bool) : Statement (.nopAck V P ps pd pc s d c) := by
  unfold Statement; revert V P ps pd pc s d c; decide

theorem stopStbFs (V pd pc d c : Bool) : Statement (.stopStbFs V pd pc d c) := by
  unfold Statement; revert V pd pc d c; decide

theorem stopDatFs (V P ps pc s : Bool) : Statement (.stopDatFs V P ps pc s) := by
  unfold Statement; revert V P ps pc s; decide

theorem nopStop (V P ps pd pc s d c : Bool) : Statement (.nopStop V P ps pd pc s d c) := by
  unfold Statement; revert V P ps pd pc s d c; decide

theorem reset (halted started : Bool) : Statement (.reset halted started) := by
  unfold Statement; revert halted started; decide

theorem reservedOp (op0 halted started : Bool) : Statement (.reservedOp op0 halted started) := by
  unfold Statement; revert op0 halted started; decide

theorem sampleHalted (started : Bool) : Statement (.sampleHalted started) := by
  unfold Statement; revert started; decide

theorem decodeStart : Statement .decodeStart := by unfold Statement; decide

theorem sample : Statement .sample := by unfold Statement; decide

end Sys2Proof.Laws.RowMatch
end

