-- ==== Sys2Proof/Laws/Step.lean ====
section
/-! SUPPORT. What a step can do, said once, and that evaluating a sample performs operation rows as exec does. -/

namespace Sys2Proof.Machine

/-- While a record waits a step is a drain cycle (R231). -/
theorem step_of_waiting (s : State) (h : s.waiting ≠ []) : step s = .next (drainCycle s) := by
  unfold step
  split <;> simp_all

/-- At the end of input a step changes nothing (R235). -/
theorem step_of_idle (s : State) (hw : s.waiting = []) (hq : s.inq = []) : step s = .next s := by
  unfold step
  split <;> simp_all

/-- Otherwise a step performs the control row of the transferred transaction (R89). -/
theorem step_of_transfer (s : State) (q : Request) (rest : List Request) (hw : s.waiting = []) (hq : s.inq = q :: rest) :
    step s = exec (accept q rest s).selected (accept q rest s) := by
  unfold step
  split <;> simp_all

/-- Everything a step can do when it answers a next state. -/
theorem step_next (s t : State) (h : step s = .next t) :
    (s.waiting ≠ [] ∧ t = drainCycle s) ∨ (s.waiting = [] ∧ s.inq = [] ∧ t = s) ∨
      ∃ q rest, s.waiting = [] ∧ s.inq = q :: rest ∧
        exec (accept q rest s).selected (accept q rest s) = .next t := by
  by_cases hw : s.waiting = []
  · cases hq : s.inq with
    | nil =>
      rw [step_of_idle s hw hq] at h
      exact .inr (.inl ⟨hw, rfl, (Host.Outcome.next.inj h).symm⟩)
    | cons q rest =>
      rw [step_of_transfer s q rest hw hq] at h
      exact .inr (.inr ⟨q, rest, hw, rfl, h⟩)
  · rw [step_of_waiting s hw] at h
    exact .inl ⟨hw, (Host.Outcome.next.inj h).symm⟩

/-- The control row of a transfer and what it answers, case by case (R89). -/
theorem exec_selected_next (a t : State) (h : exec a.selected a = .next t) :
    (a.port.op.getLsbD 1 = false ∧ a.port.op.getLsbD 0 = true ∧ t = resetRegisters a) ∨
      (a.port.op = 0 ∧ a.halted = true ∧ t = a) ∨
      (a.port.op = 0 ∧ a.halted = false ∧ a.started = true ∧ execSample a = .next t) ∨
      (a.port.op = 0 ∧ a.halted = false ∧ a.started = false ∧ execDecodeStart a = .next t) := by
  have hop : a.port.op.getLsbD 1 = false → a.port.op.getLsbD 0 = false → a.port.op = 0 := by
    intro h1 h0
    generalize a.port.op = op at h1 h0
    revert h1 h0
    revert op
    decide
  rw [selected_eq] at h
  split at h
  · cases h
  · next h1 =>
    simp only [Bool.not_eq_true] at h1
    split at h
    · next h0 => exact .inl ⟨h1, h0, (Host.Outcome.next.inj h).symm⟩
    · next h0 =>
      simp only [Bool.not_eq_true] at h0
      have hz := hop h1 h0
      split at h
      · next hh => exact .inr (.inl ⟨hz, hh, (Host.Outcome.next.inj h).symm⟩)
      · next hh =>
        simp only [Bool.not_eq_true] at hh
        split at h
        · next hs => exact .inr (.inr (.inl ⟨hz, hh, hs, h⟩))
        · next hs => exact .inr (.inr (.inr ⟨hz, hh, by simpa using hs, h⟩))

/-- Inside a sample an operation row is performed as exec performs it (R100). -/
theorem performRow_eq_exec (i : Instr) (s : State) (h : i.isOperation = true) : performRow i s = exec i s := by
  cases i <;> first | rfl | cases h

/-- A sample never selects a control row: the refusal for it is never raised. -/
theorem performRow_decodeVector (s : State) :
    performRow (decodeVector s.decodeVector) s = exec (decodeVector s.decodeVector) s :=
  performRow_eq_exec _ _ (decodeVector_isOperation _)

/-- A drain cycle moves one record or none, and uses up one level of `out_ready`. -/
theorem drainCycle_eq (s : State) :
    drainCycle s = { s with
      outReady := s.outReady.tail
      sent := s.sent ++ (if s.outReadyNow then s.waiting.take 1 else [])
      waiting := if s.outReadyNow then s.waiting.tail else s.waiting } := by
  unfold drainCycle
  split <;> simp

end Sys2Proof.Machine
end

