-- ==== Sys2Proof/Tests/Slice0.lean ====
section
/-! SUPPORT. Tests of the model: ill-formed instructions refused, words written out from the spec's encodings, single steps with the values of spec/95_test_vectors.md, and for each statement with hypotheses a concrete case that meets them. -/

namespace Sys2Proof.Tests

open Sys2Proof.Machine

/-! ## Well-formedness: each check refuses an ill-formed term. -/

theorem test_start2w_not_while_strobe_falls : (Instr.start2w false true true false false).wellFormed = false := by decide
theorem test_nopStart_not_while_strobe_falls : (Instr.nopStart false true true false false false false false).wellFormed = false := by decide
theorem test_nopStart_not_on_data_fall : (Instr.nopStart false false false true true false false true).wellFormed = false := by decide
theorem test_stopDat_not_while_strobe_rises : (Instr.stopDat false true false false true).wellFormed = false := by decide
theorem test_bit2w_not_while_strobe_rises : (Instr.bit2w true false false true false).wellFormed = false := by decide
theorem test_bit2w_not_on_data_rise : (Instr.bit2w false false false false true).wellFormed = false := by decide
theorem test_bit3w_not_while_strobe_rises : (Instr.bit3w true false false true false).wellFormed = false := by decide
theorem test_bit3w_not_on_data_rise : (Instr.bit3w false false false false true).wellFormed = false := by decide
theorem test_nopData_not_while_strobe_rises : (Instr.nopData false true false true true true true true).wellFormed = false := by decide
theorem test_nopData_not_on_data_rise : (Instr.nopData false false false false true false true true).wellFormed = false := by decide
theorem test_nopData_not_on_clock_rise : (Instr.nopData false false false true false false true true).wellFormed = false := by decide
theorem test_nopAck_not_on_clock_fall : (Instr.nopAck false false false false true false false false).wellFormed = false := by decide
theorem test_stopDatFs_not_while_strobe_rises : (Instr.stopDatFs false true false false true).wellFormed = false := by decide
theorem test_nopStop_not_while_strobe_rises : (Instr.nopStop false true false true true true true true).wellFormed = false := by decide
theorem test_nopStop_not_on_data_rise : (Instr.nopStop false false false false true false true true).wellFormed = false := by decide

/-! ## Decoding: words written out from the encodings of R86 and R89. -/

theorem test_decode_start3wCh : decodeTableWord 16 0b0001111011 = some (.start3wCh false true true true) := by decide
theorem test_decode_start3wCl : decodeTableWord 16 0b0011100000 = some (.start3wCl true false false false) := by decide
theorem test_decode_start2w : decodeTableWord 16 0b0011111101 = some (.start2w true true true true true) := by decide
theorem test_decode_nopStart : decodeTableWord 16 0b0000001011 = some (.nopStart false false false false true false true true) := by decide
theorem test_decode_stopStb : decodeTableWord 16 0b0111001111 = some (.stopStb true false true true true) := by decide
theorem test_decode_stopDat : decodeTableWord 16 0b0111000011 = some (.stopDat true true false false false) := by decide
theorem test_decode_bit2w : decodeTableWord 16 0b0100010011 = some (.bit2w false false true false true) := by decide
theorem test_decode_bit3w : decodeTableWord 16 0b0111000001 = some (.bit3w true false false false false) := by decide
theorem test_decode_nopData : decodeTableWord 16 0b0100001000 = some (.nopData false false false false true false false false) := by decide
theorem test_decode_ack : decodeTableWord 16 0b1000001000 = some (.ack false false false false false) := by decide
theorem test_decode_nack : decodeTableWord 16 0b1000011010 = some (.nack false false false true false) := by decide
theorem test_decode_nopAck : decodeTableWord 16 0b1000000001 = some (.nopAck false false false false false false false true) := by decide
theorem test_decode_stopStbFs : decodeTableWord 16 0b1111011111 = some (.stopStbFs true true true true true) := by decide
theorem test_decode_stopDatFs : decodeTableWord 16 0b1111001011 = some (.stopDatFs true true false true false) := by decide
theorem test_decode_nopStop : decodeTableWord 16 0b1111111111 = some (.nopStop true true true true true true true true) := by decide
theorem test_decode_reset : decodeTableWord 8 0b0110 = some (.reset true false) := by decide
theorem test_decode_reservedOp : decodeTableWord 8 0b1101 = some (.reservedOp true false true) := by decide
theorem test_decode_sampleHalted : decodeTableWord 8 0b0011 = some (.sampleHalted true) := by decide
theorem test_decode_decodeStart : decodeTableWord 8 0b0000 = some .decodeStart := by decide
theorem test_decode_sample : decodeTableWord 8 0b0001 = some .sample := by decide
theorem test_decode_refuses_above_vector : decodeWord 16 0b10000000000 = .error .aboveDecodeVector := by rfl
theorem test_decode_refuses_above_control : decodeWord 8 0b10000 = .error .aboveControlVector := by rfl
theorem test_decode_refuses_long_word : decodeWord 32 0 = .error .wordLength := by rfl

/-! ## States to start from. -/

/-- A field of a next state. -/
def field {α : Type} (f : State → α) : Outcome → Option α
  | .next s => some (f s)
  | .fault _ => none
  | .refused _ => none

/-- The kinds and spans of the records waiting. -/
def spans (s : State) : List (Kind × Nat × Nat) := s.waiting.map fun r => (r.kind, r.ss, r.es)

/-- A SAMPLE of the host with the configuration of 95_test_vectors.md. -/
def sampleOf (clk dat stb : Bool) : Request :=
  { Request.low with clk := clk, dat := dat, stb := stb, cfgClk := true, cfgDat := true, cfgStb := true, cfgRate := 1000000 }

/-- A running core. -/
def running (st : Fsm) (stb : Bool) (before : Levels) (n : Nat) : State :=
  { State.reset with started := true, cClk := true, cDat := true, cStb := stb, cRate := 1000000, state := st, prev := some before, sn := n }

/-- A buffer of the given records. -/
def buffer (bs : List BitRec) : Vector BitRec 9 :=
  #v[bs.getD 0 BitRec.empty, bs.getD 1 BitRec.empty, bs.getD 2 BitRec.empty, bs.getD 3 BitRec.empty, bs.getD 4 BitRec.empty,
     bs.getD 5 BitRec.empty, bs.getD 6 BitRec.empty, bs.getD 7 BitRec.empty, bs.getD 8 BitRec.empty]

/-- The eight bits of 0x0D taken at samples 20, 30, …, 90. -/
def eightBits : Vector BitRec 9 :=
  buffer [⟨true, 20, 30⟩, ⟨false, 30, 40⟩, ⟨true, 40, 50⟩, ⟨true, 50, 60⟩, ⟨false, 60, 70⟩, ⟨false, 70, 80⟩, ⟨false, 80, 90⟩, ⟨false, 90, 90⟩]

/-- A session started at sample 10 with a full byte 0x0D pending (T-2W-1 and T-3W-1 before their ends). -/
def fullByte (v : Variant) (n : Nat) : State :=
  { running .findData true ⟨false, false, false⟩ n with
    variant := v, bitCount := 8, value := 0x0D, bits := eightBits, byteSs := 20, pduSs := 10, pduBitCount := 8 }

/-- A session started at sample 10 with one bit taken at 20. -/
def oneBit (v : Variant) : State :=
  { running .findData true ⟨false, true, false⟩ 30 with
    variant := v, bitCount := 1, value := 0x80, bits := buffer [⟨true, 20, 20⟩], byteSs := 20, pduSs := 10, pduBitCount := 1 }

/-! ## Single steps with the spec's expected values (95_test_vectors.md; the vector's name in each comment). -/

/-- V-START-1. -/
theorem test_start3wCh : field (fun t => (t.variant, t.state, spans t)) (exec (.start3wCh false true true true) (running .findStart true ⟨true, true, true⟩ 5)) =
    some (.threeWire, .findData, [(.start, 5, 5)]) := by decide
/-- V-START-2 (R102's example, at sample 7). -/
theorem test_start3wCl : field (fun t => (t.variant, spans t)) (exec (.start3wCl false false false false) (running .findStart true ⟨true, false, false⟩ 7)) =
    some (.threeWire, [(.start, 7, 7)]) := by decide
/-- V-START-4, and that `byte_ss` and `ack_ss` are left. -/
theorem test_start2w : field (fun t => (t.variant, [t.pduSs, t.byteSs, t.ackSs], spans t))
    (exec (.start2w false false false true false) { running .findStart false ⟨false, true, true⟩ 10 with variant := .threeWire, byteSs := 3, ackSs := 4 }) =
    some (.twoWire, [10, 3, 4], [(.start, 10, 10)]) := by decide
/-- V-START-6 as a whole SAMPLE: the strobe falling wins over the data falling. -/
theorem test_start_priority : field (fun t => (t.variant, t.sn, t.prev))
    (exec .sample { running .findStart true ⟨true, true, true⟩ 9 with port := sampleOf true false false }) =
    some (.threeWire, 10, some ⟨false, false, true⟩) := by decide
/-- V-START-10. -/
theorem test_nopStart : field (fun t => (t.state, t.sn, t.waiting.length))
    (exec .sample { running .findStart false ⟨false, true, false⟩ 9 with port := sampleOf true true false }) =
    some (.findStart, 10, 0) := by decide
/-- T-3W-1: eight BIT records, the byte, the bitrate and STOP. -/
theorem test_stopStb : field spans (exec (.stopStb true false true true true) (fullByte .threeWire 95)) =
    some [(.bit, 20, 30), (.bit, 30, 40), (.bit, 40, 50), (.bit, 50, 60), (.bit, 60, 70), (.bit, 70, 80), (.bit, 80, 90), (.bit, 90, 95),
      (.command, 20, 95), (.bitrate, 20, 95), (.stop, 95, 95)] := by decide
/-- T-3W-1: the rate. -/
theorem test_stopStb_rate : field (fun t => t.waiting.map (·.rate)) (exec (.stopStb true false true true true) (fullByte .threeWire 95)) =
    some [0, 0, 0, 0, 0, 0, 0, 0, 0, 95238, 0] := by decide
/-- V-STOP-3: a 2-wire stop in mid-byte discards the pending bit. -/
theorem test_stopDat : field (fun t => (t.state, t.bitCount, spans t))
    (exec (.stopDat false false false true false) { oneBit .twoWire with sn := 35 }) =
    some (.findStart, 0, [(.bitrate, 20, 35), (.stop, 35, 35)]) := by decide
/-- V-STOP-1: no BITRATE for `k = 0`. -/
theorem test_stopDat_next_sample : field spans (exec (.stopDat false false false true false) { running .findData false ⟨false, false, true⟩ 11 with pduSs := 10 }) =
    some [(.stop, 11, 11)] := by decide
/-- V-BIT2-2. -/
theorem test_bit2w : field (fun t => ([t.bitCount.toNat, t.value.toNat], [t.bitAt 1, t.bitAt 2], spans t))
    (exec (.bit2w false false true false true) { running .findData false ⟨false, true, false⟩ 40 with
      bitCount := 2, value := 0x40, bits := buffer [⟨true, 20, 30⟩, ⟨false, 30, 30⟩], byteSs := 20 }) =
    some ([3, 0xA0], [⟨false, 30, 40⟩, ⟨true, 40, 40⟩], [(.bit, 30, 40)]) := by decide
/-- V-BIT2-3: the ninth edge. -/
theorem test_bit2w_ninth_edge : field (fun t => (t.state, [t.ackSs, t.bitCount.toNat, t.byteCount], spans t))
    (exec (.bit2w false false true false true) (fullByte .twoWire 100)) =
    some (.findAck, [100, 0, 1], [(.bit, 90, 100), (.command, 20, 100)]) := by decide
/-- V-BIT3-2: no live record. -/
theorem test_bit3w : field (fun t => ([t.bitCount.toNat, t.value.toNat], [t.bitAt 0, t.bitAt 1], t.waiting.length))
    (exec (.bit3w true false true false false) (oneBit .threeWire)) =
    some ([2, 0x40], [⟨true, 20, 30⟩, ⟨false, 30, 30⟩], 0) := by decide
/-- P2 at sample 100: the look-ahead flush. -/
theorem test_bit3w_flush : field (fun t => ([t.bitCount.toNat, t.byteSs, t.value.toNat, t.byteCount], t.waiting.map (·.val), (spans t).getLast?))
    (exec (.bit3w true false false false false) (fullByte .threeWire 100)) =
    some ([1, 100, 0, 1], [1, 0, 1, 1, 0, 0, 0, 0, 0x0D], some (.command, 20, 100)) := by decide
/-- V-BIT2-4's classification: a later byte is DATA. -/
theorem test_later_byte_is_data : field (fun t => (t.byteCount, t.waiting.getLast?.map (·.kind)))
    (exec (.bit2w false false false false false) { fullByte .twoWire 100 with byteCount := 3 }) = some (4, some .data) := by decide
/-- V-SAT-1: `byte_count` stays at 3 for `W_BC` = 2. -/
theorem test_byte_count_saturates : field (·.byteCount)
    (exec (.bit2w false false false false false) { fullByte .twoWire 100 with byteCount := 3, par := { Params.specTaken with wBc := 2 } }) = some 3 := by decide
/-- The example of R109: a clock falling edge in FIND_DATA. -/
theorem test_nopData : field (fun t => (t.state, t.waiting.length))
    (exec .sample { running .findData false ⟨false, false, true⟩ 24 with port := sampleOf false false false }) = some (.findData, 0) := by decide
/-- V-ACK-1. -/
theorem test_ack : field (fun t => (t.state, spans t)) (exec (.ack false false false false false) { running .findAck false ⟨false, false, true⟩ 105 with ackSs := 100 }) =
    some (.findData, [(.ack, 100, 105)]) := by decide
/-- V-ACK-3 as a whole SAMPLE: the level at the falling edge counts. -/
theorem test_nack : field (fun t => (t.state, spans t))
    (exec .sample { running .findAck false ⟨false, false, true⟩ 104 with ackSs := 100, port := sampleOf false true false }) =
    some (.findData, [(.nack, 100, 105)]) := by decide
/-- The example of R166: a stop pattern is ignored in FIND_ACK. -/
theorem test_nopAck : field (fun t => (t.state, t.waiting.length))
    (exec .sample { running .findAck false ⟨false, false, true⟩ 104 with port := sampleOf true true false }) = some (.findAck, 0) := by decide
/-- The constructed state of section 2.5: its first and last records. -/
theorem test_stopStbFs : field (fun t => (t.state, t.waiting.length, t.waiting.map (·.rate)))
    (exec .sample { fullByte .threeWire 9 with
      state := .findStop, prev := some ⟨false, true, true⟩, pduSs := 0, byteSs := 1, port := sampleOf true true true }) =
    some (.findStart, 11, [0, 0, 0, 0, 0, 0, 0, 0, 0, 888888, 0]) := by decide
/-- Section 2.5: `prev` = (0,0,1), `cur` = (0,1,1) selects STOP_DAT_FS. -/
theorem test_stopDatFs : field (·.state) (exec .sample { running .findStop true ⟨false, false, true⟩ 9 with port := sampleOf true true false }) =
    some .findStart := by decide
/-- Section 2.5: all levels high and steady select NOP_STOP. -/
theorem test_nopStop : field (fun t => (t.state, t.waiting.length)) (exec .sample { running .findStop true ⟨true, true, true⟩ 9 with port := sampleOf true true true }) =
    some (.findStop, 0) := by decide
/-- V-CTL-1 on a core with a pending byte. -/
theorem test_reset : field (fun t => (t.state, t.bitCount, t.started, t.prev, t.waiting.length)) (exec (.reset false true) (fullByte .threeWire 95)) =
    some (.findStart, 0, false, none, 0) := by decide
/-- V-CTL-2. -/
theorem test_reservedOp : step { State.reset with inq := [{ Request.low with op := 3 }] } = .refused .reservedOp := by rfl
/-- V-CTL-3. -/
theorem test_sampleHalted : field (fun t => (t.sn, t.statusErr, t.inq.length))
    (step { State.reset with started := true, statusErr := 2, inq := [sampleOf true true true] }) = some (0, 2, 0) := by decide
/-- V-CTL-4. -/
theorem test_decodeStart : field (fun t => (t.started, t.sn, t.prev, t.waiting.length))
    (step { State.reset with inq := [{ sampleOf true true false with cfgStb := false }] }) = some (true, 0, some ⟨false, true, true⟩, 0) := by decide
/-- V-ERR-4: the channel check comes first. -/
theorem test_decodeStart_both_errors : field (fun t => (t.statusErr, t.sn, t.waiting.length))
    (step { State.reset with inq := [{ sampleOf true true false with cfgDat := false, cfgRate := 0 }] }) = some (1, 0, 0) := by decide
/-- V-ERR-3. -/
theorem test_decodeStart_no_samplerate : field (·.statusErr) (step { State.reset with inq := [{ sampleOf true true false with cfgRate := 0 }] }) = some 2 := by decide
/-- Section 2.3: ALL_HIGH sees a start condition at sample 0. -/
theorem test_decodeStart_all_high : field (fun t => (t.state, spans t))
    (step { State.reset with par := { Params.specTaken with initPrev := .allHigh }, inq := [{ sampleOf true false false with cfgStb := false }] }) =
    some (.findData, [(.start, 0, 0)]) := by decide
/-- V-CTL-6. -/
theorem test_sample_overflow : exec .sample { running .findStart false ⟨false, true, true⟩ 7 with par := { Params.specTaken with wSn := 3 } } =
    .refused .sampleIndexOverflow := by rfl
/-- V-BYTE-2's value: bits 1,1,0 stand in `value[7:5]`. -/
theorem test_fold_three_bits : [true, true, false].foldl foldBit 0 = 0x60 := by decide
/-- L1-1: eight folds from 0xFF. -/
theorem test_fold_eight_bits : [true, false, true, true, false, false, false, false].foldl foldBit 0xFF = 0x0D := by decide
/-- Section 2.8, the vector that tells exact arithmetic from floating point. -/
theorem test_bitrate_exact : ({ State.reset with pduBitCount := 1, cRate := 1000000, sn := 6 } : State).bitrate = 200000 := by decide
/-- R94: the kind codes are 1 to 8. -/
theorem test_kind_codes : [Kind.start, .stop, .bit, .command, .data, .ack, .nack, .bitrate].map Kind.code = [1, 2, 3, 4, 5, 6, 7, 8] := by decide
/-- A record leaves, then the next transaction is taken (R231). -/
theorem test_handshake : field (fun t => (t.inq.length, t.waiting.length, t.sent.length))
    (step { State.reset with waiting := [{ kind := .stop, ss := 1, es := 1 }], inq := [sampleOf true true true] }) = some (1, 0, 1) := by decide
/-- A word placed by the host's tools runs as the next step: START_2W from reset. -/
theorem test_withFetchWord : field (fun t => (t.state, t.variant, spans t)) (step (State.reset.withFetchWord 16 0b0000011001)) =
    some (.findData, .twoWire, [(.start, 1, 1)]) := by decide

/-! ## Witnesses: for each statement with hypotheses, a case that meets them, one for each clause. -/

/-- The full 3-wire byte with the stop sample of T-3W-1 presented. -/
def beforeStop : State := { fullByte .threeWire 94 with inq := [sampleOf true true true] }

/-- It meets the invariants. -/
theorem beforeStop_sound : beforeStop.Sound where
  notFindStop := by decide
  ackPhase := by decide
  countAtMostEight := by decide
  tiled := by decide
  pendingOpen := by decide
  byteStart := by decide
  valueHigh := by decide
  valueLow := by decide
  startBeforeByte := by decide
  bitsCounted := by decide
  startPast := by decide
  beforeStart := by decide
  runningReady := by decide

/-- It meets the width bounds. -/
theorem beforeStop_fits : beforeStop.Fits where
  params := by decide
  sn := by decide
  pduSs := by decide
  ackSs := by decide
  pduBitCount := by decide
  byteSs := by decide
  byteCount := by decide
  cRate := by decide
  bits := by decide
  records := by intro r hr; cases hr
  beforeStart := by intro h; cases h

/-- Its step answers a next state. -/
theorem beforeStop_steps : (field (fun _ => ()) (step beforeStop)).isSome = true := by decide

theorem witness_DecodeOfEncode : (Instr.bit2w true true true true true).wellFormed = true := by decide
theorem witness_EncodeOfDecode : (decodeTableWord 8 15).isSome = true ∧ (decodeTableWord 16 1023).isSome = true := by decide
theorem witness_DecodeVectorLayout : (fullByte .twoWire 90).prev = some ⟨false, false, false⟩ := by decide
theorem witness_StepRunsDecodedInstruction : beforeStop.waiting = [] ∧ beforeStop.inq = [sampleOf true true true] ∧
    decodeControl ({ beforeStop with port := sampleOf true true true, inq := [] } : State).controlVector = .sample := by decide
/-- The last index, and the one before it. -/
theorem witness_SampleRunsSelectedOperation :
    (running .findStart true ⟨true, true, true⟩ (2 ^ 64 - 1)).prev.isSome = true ∧
    (running .findStart true ⟨true, true, true⟩ (2 ^ 64 - 1)).sn = 2 ^ (running .findStart true ⟨true, true, true⟩ (2 ^ 64 - 1)).par.wSn - 1 ∧
    (running .findStart true ⟨true, true, true⟩ (2 ^ 64 - 2)).sn < 2 ^ (running .findStart true ⟨true, true, true⟩ (2 ^ 64 - 2)).par.wSn - 1 := by decide
theorem witness_SampleCompletes : (fullByte .threeWire (2 ^ 64 - 2)).sn < 2 ^ (fullByte .threeWire (2 ^ 64 - 2)).par.wSn - 1 ∧
    (fullByte .threeWire (2 ^ 64 - 2)).bitCount.toNat ≤ 8 := by decide
/-- One state for each NOP row. -/
theorem witness_UnmatchedSampleChangesNothing :
    (running .findStop false ⟨false, false, false⟩ 3).prev.isSome = true ∧
    [Fsm.findStart, .findData, .findAck, .findStop].map (fun f => (running f false ⟨false, false, false⟩ 3).patternRow) =
      ["NOP_START", "NOP_DATA", "NOP_ACK", "NOP_STOP"] ∧ 3 < 2 ^ State.reset.par.wSn - 1 := by decide
theorem witness_EndOfInputChangesNothing : State.reset.waiting = [] ∧ State.reset.inq = [] := by decide
/-- The host silent, ready, and not ready. -/
theorem witness_RecordLeavesWhenReady : ([] : List Bool).head? ≠ some false ∧ [true].head? ≠ some false ∧ [false].head? = some false ∧
    ({ State.reset with waiting := [{ kind := .stop, ss := 1, es := 1 }] } : State).waiting = { kind := .stop, ss := 1, es := 1 } :: [] := by decide
theorem witness_WaitingRecordsDrainInOrder : beforeStop.outReady = [] := by decide
theorem witness_ObservationOnlyGrows : (field (·.waiting.length) (step beforeStop)) = some 11 := by decide
theorem witness_AtMostElevenRecords : beforeStop.Sound ∧ beforeStop.waiting = [] ∧ (field (·.waiting.length) (step beforeStop)) = some 11 :=
  ⟨beforeStop_sound, by decide, by decide⟩
theorem witness_StepKeepsParametersAndEdge : beforeStop.waiting = [] ∧ (field (·.inq.length) (step beforeStop)) = some 0 := by decide
theorem witness_ResetWritesEveryRegister : ({ beforeStop with inq := [{ Request.low with op := 1 }] } : State).waiting = [] ∧
    ({ Request.low with op := 1 } : Request).op = 1 := by decide
theorem witness_ResetForgetsHistory : (field (·.started) (exec (.reset false true) beforeStop)) = some false ∧ State.reset.par = beforeStop.par := by decide
theorem witness_ReservedOperationRefused : ({ Request.low with op := 2 } : Request).op = 2 ∧ ({ Request.low with op := 3 } : Request).op = 3 ∧
    beforeStop.waiting = [] := by decide
theorem witness_HaltedCoreIgnoresSamples : ({ beforeStop with statusErr := 2 } : State).statusErr ≠ 0 ∧ (sampleOf true true true).op = 0 ∧
    ({ beforeStop with statusErr := 2 } : State).waiting = [] := by decide

/-- A core before decode start, with the ports of a first sample. -/
def firstPort (clkThere : Bool) (rate : Nat) : State :=
  { State.reset with port := { sampleOf true false true with cfgClk := clkThere, cfgRate := rate } }

/-- A missing channel, a missing rate, and the smallest rate. -/
theorem witness_DecodeStartChecksThenEvaluates :
    ((firstPort false 0).port.cfgRate < 2 ^ State.reset.par.wSr ∧ (firstPort true 1).port.cfgRate < 2 ^ State.reset.par.wSr) ∧
    (latchConfig (firstPort false 0)).cClk = false ∧
    ((latchConfig (firstPort true 0)).cClk = true ∧ (latchConfig (firstPort true 0)).cDat = true ∧ (latchConfig (firstPort true 0)).cRate = 0) ∧
    ((latchConfig (firstPort true 1)).cClk = true ∧ (latchConfig (firstPort true 1)).cDat = true ∧ (latchConfig (firstPort true 1)).cRate ≠ 0) := by decide
theorem witness_DecodeStartCompletes : (firstPort true 1).state = .findStart ∧ (firstPort true 1).port.cfgClk = true ∧
    (firstPort true 1).port.cfgDat = true ∧ (firstPort true 1).port.cfgRate % 2 ^ (firstPort true 1).par.wSr ≠ 0 ∧
    (firstPort true 1).par.initPrev ≠ .allHigh := by decide
/-- A strobe rising edge, a data rising edge with the clock high, a clock rising edge in each variant, and none of them. -/
theorem witness_SampleInFindData :
    ((oneBit .twoWire).prev.isSome = true ∧ (oneBit .twoWire).state = .findData ∧ (oneBit .twoWire).sn < 2 ^ State.reset.par.wSn - 1) ∧
    ({ oneBit .threeWire with port := sampleOf true true true, prev := some ⟨false, true, true⟩ } : State).strobeRising = true ∧
    ((({ oneBit .twoWire with port := sampleOf true true true, prev := some ⟨true, false, true⟩ } : State).cur.clk &&
        ({ oneBit .twoWire with port := sampleOf true true true, prev := some ⟨true, false, true⟩ } : State).dataRising) = true) ∧
    (({ oneBit .twoWire with port := sampleOf true true true, prev := some ⟨true, true, false⟩ } : State).clockRising = true ∧
      ({ oneBit .threeWire with port := sampleOf true true true, prev := some ⟨true, true, false⟩ } : State).clockRising = true) ∧
    ({ oneBit .twoWire with port := sampleOf false true true, prev := some ⟨true, true, false⟩ } : State).patternRow = "NOP_DATA" := by decide
/-- A strobe falling edge, a data falling edge, and neither. -/
theorem witness_SampleInFindStart :
    ((running .findStart true ⟨true, true, true⟩ 9).prev.isSome = true ∧ (running .findStart true ⟨true, true, true⟩ 9).state = .findStart ∧
      9 < 2 ^ State.reset.par.wSn - 1) ∧
    ({ running .findStart true ⟨true, true, true⟩ 9 with port := sampleOf true false false } : State).strobeFalling = true ∧
    (({ running .findStart true ⟨true, true, true⟩ 9 with port := sampleOf true false true } : State).strobeFalling = false ∧
      (({ running .findStart true ⟨true, true, true⟩ 9 with port := sampleOf true false true } : State).cur.clk &&
        ({ running .findStart true ⟨true, true, true⟩ 9 with port := sampleOf true false true } : State).dataFalling) = true) ∧
    (({ running .findStart true ⟨true, true, true⟩ 9 with port := sampleOf false false true } : State).strobeFalling = false ∧
      (({ running .findStart true ⟨true, true, true⟩ 9 with port := sampleOf false false true } : State).cur.clk &&
        ({ running .findStart true ⟨true, true, true⟩ 9 with port := sampleOf false false true } : State).dataFalling) = false) := by decide
/-- A 2-wire session with bits, a 3-wire one with none, with one and with eight. -/
theorem witness_StopRowsEndTheSession :
    ((fullByte .twoWire 95).variant = .twoWire ∨ (fullByte .twoWire 95).bitCount = 0) ∧
    ({ running .findData true ⟨false, true, true⟩ 9 with variant := .threeWire } : State).bitCount = 0 ∧
    ((oneBit .threeWire).variant = .threeWire ∧ (oneBit .threeWire).bitCount.toNat = 1) ∧
    ((fullByte .threeWire 95).variant = .threeWire ∧ (fullByte .threeWire 95).bitCount.toNat = 8) := by decide
/-- No bit, one, seven and eight. -/
theorem witness_TwoWireBitRow : (running .findData false ⟨false, true, false⟩ 20).bitCount.toNat = 0 ∧ (oneBit .twoWire).bitCount.toNat = 1 ∧
    ({ oneBit .twoWire with bitCount := 7 } : State).bitCount.toNat = 7 ∧ (fullByte .twoWire 100).bitCount.toNat = 8 := by decide
/-- No bit, one, seven and eight. -/
theorem witness_ThreeWireBitRow : (running .findData true ⟨false, true, false⟩ 20).bitCount.toNat = 0 ∧ (oneBit .threeWire).bitCount.toNat = 1 ∧
    ({ oneBit .threeWire with bitCount := 7 } : State).bitCount.toNat = 7 ∧ (fullByte .threeWire 100).bitCount.toNat = 8 := by decide
/-- Nine, ten and fifteen. -/
theorem witness_BitCountAboveEight : ({ fullByte .threeWire 95 with bitCount := 9 } : State).bitCount.toNat = 9 ∧
    9 < ({ fullByte .threeWire 95 with bitCount := 10 } : State).bitCount.toNat ∧
    9 < ({ fullByte .threeWire 95 with bitCount := 15 } : State).bitCount.toNat ∧ (fullByte .threeWire 95).variant = .threeWire := by decide
/-- A clock falling edge and none. -/
theorem witness_SampleInFindAck :
    ((running .findAck false ⟨false, false, true⟩ 104).state = .findAck ∧ 104 < 2 ^ State.reset.par.wSn - 1 ∧
      (running .findAck false ⟨false, false, true⟩ 104).prev = some ⟨false, false, true⟩ ∧
      (running .findAck false ⟨false, false, true⟩ 104).port.clk = false) ∧
    (running .findAck false ⟨false, false, false⟩ 104).prev = some ⟨false, false, false⟩ := by decide
theorem witness_EightFoldsAreLsbFirst : [true, false, true, true, false, false, false, false].length = 8 := by decide
/-- `k = 0`, `k = 1`, and the worked example. -/
theorem witness_BitrateIsExact : (10 < 11 ∧ 11 - 10 - 1 = 0) ∧ (10 < 12 ∧ 12 - 10 - 1 ≠ 0) ∧
    ({ State.reset with sn := 1001, pduBitCount := 80, cRate := 1000000 } : State).pduSs = 0 := by decide
theorem witness_BitrateFitsItsField : beforeStop.Fits := beforeStop_fits
theorem witness_BitrateUnlessStopFollowsStart : ({ beforeStop with port := sampleOf true true true } : State).patternRow = "STOP_STB" ∧
    beforeStop.state = .findData ∧ (field (·.sn) (exec .sample { beforeStop with port := sampleOf true true true })) = some 95 := by decide
/-- A stop in a session with a byte behind it, and a START after such a session. -/
theorem witness_ByteCountNonzeroUntilStart :
    (field (·.byteCount) (step { beforeStop with byteCount := 3 })) = some 4 ∧
    (field (fun t => (t.byteCount, t.state)) (step { running .findStart true ⟨true, true, true⟩ 9 with byteCount := 3, inq := [sampleOf true true false] })) =
      some (0, .findData) ∧ 1 ≤ State.reset.par.wBc := by decide
theorem witness_FirstByteIsCommand : beforeStop.waiting = [] ∧ (field (fun t => (t.waiting.filter Record.isByte).length) (step beforeStop)) = some 1 := by decide
/-- The eight data edges of T-2W-1 and T-3W-1: 0x0D at samples 20, 30, …, 90. -/
def dataEdges : List (Nat × Level) :=
  [(20, true), (30, false), (40, true), (50, true), (60, false), (70, false), (80, false), (90, false)]

/-- T-2W-1: eight edges of different levels into an empty accumulator, and the ninth at 100. -/
theorem witness_NineEdgesMakeTwoWireByte : dataEdges.length = 8 ∧ (running .findData false ⟨false, true, false⟩ 15).bitCount = 0 ∧
    (field (fun t => (t.waiting.getLast?.map (·.val), (spans t).getLast?, t.ackSs))
      (edges2w (dataEdges ++ [(100, true)]) (running .findData false ⟨false, true, false⟩ 15))) =
      some (some 0x0D, some (.command, 20, 100), 100) := by decide
/-- P2: the same eight edges, flushed by the ninth at 100. -/
theorem witness_NinthEdgeFlushesThreeWireByte : dataEdges.length = 8 ∧ (running .findData true ⟨false, true, false⟩ 15).bitCount = 0 ∧
    (field (fun t => (t.waiting.getLast?.map (·.val), (spans t).getLast?, t.byteSs))
      (edges3w (dataEdges ++ [(100, true)]) (running .findData true ⟨false, true, false⟩ 15))) =
      some (some 0x0D, some (.command, 20, 100), 100) := by decide
/-- A second byte of three bits after the first: by R63 and V-BYTE-2 its value is 0x60, and it spans from 100 to the stop. -/
theorem witness_ThreeWireSessionReportsEveryBit :
    (∀ g ∈ [dataEdges], g.length = 8) ∧ 1 ≤ [(100, true), (110, true), (120, false)].length ∧
    (field (fun t => (t.value, t.byteCount, t.byteSs))
      (edges3w (dataEdges ++ [(100, true), (110, true), (120, false)])
        { running .findData true ⟨false, true, false⟩ 15 with variant := .threeWire })) = some (0x60, 1, 100) ∧
    ((sessionRecords 3 0 [dataEdges, [(100, true), (110, true), (120, false)]] 130).filter Record.isByte).map (fun r => (r.kind, r.ss, r.es, r.val)) =
      [(.command, 20, 100, 0x0D), (.data, 100, 130, 0x60)] := by decide
/-- One edge and eight. -/
theorem witness_StopFlushesThreeWireBits : 1 ≤ [(20, true)].length ∧ dataEdges.length ≤ 8 ∧
    ({ running .findData true ⟨false, true, false⟩ 15 with variant := .threeWire } : State).bitCount = 0 ∧
    ({ running .findData true ⟨false, true, false⟩ 15 with variant := .threeWire } : State).value = 0 := by decide
theorem witness_StepKeepsSound : beforeStop.Sound ∧ (field (fun _ => ()) (step beforeStop)).isSome = true := ⟨beforeStop_sound, beforeStop_steps⟩
theorem witness_StepKeepsWidths : beforeStop.Fits ∧ (field (fun _ => ()) (step beforeStop)).isSome = true := ⟨beforeStop_fits, beforeStop_steps⟩
theorem witness_VariantStableInSession : beforeStop.state ≠ .findStart ∧ (∀ q ∈ beforeStop.inq.head?, q.op ≠ 1) ∧
    (field (·.variant) (step beforeStop)) = some .threeWire := by decide
theorem witness_FindStopNeverEntered : beforeStop.state ≠ .findStop ∧ (field (·.state) (step beforeStop)) = some .findStart := by decide
/-- A started core, and a core whose first sample, under ALL_HIGH, is a start condition. -/
theorem witness_AbsentStrobeStartsTwoWire :
    (field (fun t => (t.state, t.variant)) (step { State.reset with
      par := { Params.specTaken with initPrev := .allHigh }, inq := [{ sampleOf true false false with cfgStb := false }] })) =
      some (.findData, .twoWire) ∧
    (running .findStart false ⟨false, true, true⟩ 9).started = true ∧
    (running .findStart false ⟨false, true, true⟩ 9).cStb = false ∧
    (field (·.state) (step { running .findStart false ⟨false, true, true⟩ 9 with inq := [sampleOf true false true] })) = some .findData := by decide
/-- FIND_DATA, and FIND_ACK. -/
theorem witness_NoStartInsideSession : beforeStop.waiting = [] ∧ beforeStop.state = .findData ∧
    (field (fun t => t.waiting.map (·.kind)) (step { running .findAck false ⟨false, false, true⟩ 9 with inq := [sampleOf false true true] })) = some [.nack] := by decide
theorem witness_ConfigInputsIgnoredAfterStart : beforeStop.started = true ∧ beforeStop.waiting = [] ∧
    ({ sampleOf true true true with cfgClk := false, cfgRate := 0 } : Request).op = (sampleOf true true true).op := by decide
/-- A started core with the strobe absent, and one whose first sample says so. -/
theorem witness_AbsentStrobeLevelIgnored : (running .findData false ⟨false, true, true⟩ 9).cStb = false ∧
    (State.reset.started = false ∧ ({ sampleOf true true true with cfgStb := false } : Request).cfgStb = false) := by decide
/-- A record waiting, nothing presented, and an instruction of each of the two kinds. -/
theorem witness_RadixNeverRead : ({ State.reset with waiting := [{ kind := .stop, ss := 1, es := 1 }] } : State).waiting ≠ [] ∧
    State.reset.inq = [] ∧ (Instr.sample.mnemonic ≠ "RESET" ∧ Instr.sample.mnemonic ≠ "DECODE_START") ∧
    Instr.decodeStart.mnemonic = "DECODE_START" := by decide
theorem witness_ByteRecordFansOut : ({ kind := .command, ss := 20, es := 100, val := 0x0D, nbits := 8 } : Record).kind = .command ∧
    ({ kind := .data, ss := 20, es := 100, val := 0x0D, nbits := 8 } : Record).kind = .data := by decide

end Sys2Proof.Tests
end

section
/-! SUPPORT. What a performed row can do, said once: every operation row reduces to one of five shared operations, and in FIND_START only to a start or to nothing. -/

namespace Sys2Proof.Machine

/-- Everything the rule of a row can answer: nothing (the four NOP rows), a start, an acknowledge, a stop, or a bit. -/
theorem performRow_next (i : Instr) (s t : State) (h : performRow i s = .next t) :
    t = s ∨ (∃ v, t = startHandler { s with variant := v }) ∨ (∃ k, t = answer k s) ∨ stopHandler s = .next t ∨
      (∃ d, execBit2w d s = .next t) ∨ (∃ d, execBit3w d s = .next t) := by
  have hnext : ∀ u : State, (Host.Outcome.next u : Outcome) = .next t → t = u :=
    fun _ hu => (Host.Outcome.next.inj hu).symm
  cases i with
  | nopStart | nopData | nopAck | nopStop => exact .inl (hnext _ h)
  | start3wCh | start3wCl | start2w => exact .inr (.inl ⟨_, hnext _ h⟩)
  | ack | nack => exact .inr (.inr (.inl ⟨_, hnext _ h⟩))
  | stopStb | stopDat | stopStbFs | stopDatFs => exact .inr (.inr (.inr (.inl h)))
  | bit2w => exact .inr (.inr (.inr (.inr (.inl ⟨_, h⟩))))
  | bit3w => exact .inr (.inr (.inr (.inr (.inr ⟨_, h⟩))))
  | reset | reservedOp | sampleHalted | decodeStart | sample => cases h

/-- In FIND_START a sample starts a session or does nothing (R101 to R104): it never counts a bit. -/
theorem performRow_next_of_findStart (s t : State) (hs : s.state = .findStart)
    (h : performRow (Sys2Proof.decodeVector s.decodeVector) s = .next t) :
    t = s ∨ ∃ v, t = startHandler { s with variant := v } := by
  rw [decodeVector_of_findStart s hs] at h
  split at h
  · split at h
    · exact .inr ⟨.threeWire, (Host.Outcome.next.inj h).symm⟩
    · exact .inr ⟨.threeWire, (Host.Outcome.next.inj h).symm⟩
  · split at h
    · exact .inr ⟨.twoWire, (Host.Outcome.next.inj h).symm⟩
    · exact .inl (Host.Outcome.next.inj h).symm

/-- With the sample index at 0 the first sample moves `prev` alone. -/
theorem firstSample_of_zero (s : State) (h : s.sn = 0) : firstSample s = latchPrev s.initialPrev s := by
  unfold firstSample latchPrev
  rw [← h]

end Sys2Proof.Machine
end

section
/-! SUPPORT. What no transaction writes: the parameters and the host's side of the edge. -/

namespace Sys2Proof.Machine

/-- What performing a transaction leaves alone: the parameters (R8), the transactions still to come, the levels of `out_ready`
and the records the host has taken (R231, R233). -/
def State.fixedPart (s : State) : Params × List Request × List Bool × List Record :=
  (s.par, s.inq, s.outReady, s.sent)

section
variable (s : State)

@[simp] theorem emit_fixedPart (r : Record) : (emit r s).fixedPart = s.fixedPart := rfl
@[simp] theorem append_fixedPart (d : Level) (n : Nat) : (append d n s).fixedPart = s.fixedPart := rfl
@[simp] theorem fold_fixedPart (d : Level) : (fold d s).fixedPart = s.fixedPart := rfl
@[simp] theorem countBit_fixedPart : (countBit s).fixedPart = s.fixedPart := rfl
@[simp] theorem startHandler_fixedPart : (startHandler s).fixedPart = s.fixedPart := rfl
@[simp] theorem byteComplete2w_fixedPart : (byteComplete2w s).fixedPart = s.fixedPart := rfl
@[simp] theorem answer_fixedPart (k : Kind) : (answer k s).fixedPart = s.fixedPart := rfl
@[simp] theorem raiseFatal_fixedPart (c : BitVec 2) : (raiseFatal c s).fixedPart = s.fixedPart := rfl
@[simp] theorem resetRegisters_fixedPart : (resetRegisters s).fixedPart = s.fixedPart := rfl
@[simp] theorem latchConfig_fixedPart : (latchConfig s).fixedPart = s.fixedPart := rfl
@[simp] theorem latchPrev_fixedPart (cur : Levels) : (latchPrev cur s).fixedPart = s.fixedPart := rfl
@[simp] theorem nextSample_fixedPart : (nextSample s).fixedPart = s.fixedPart := rfl
@[simp] theorem firstSample_fixedPart : (firstSample s).fixedPart = s.fixedPart := rfl

@[simp] theorem closePrev_fixedPart (n : Nat) : (closePrev n s).fixedPart = s.fixedPart := by
  rw [closePrev_frame]
  rfl

@[simp] theorem flush_fixedPart : (flush s).fixedPart = s.fixedPart := by
  by_cases h : s.bitCount = 0
  · rw [flush_of_zero s h]
  · rw [flush_of_pos s h]
    rfl

@[simp] theorem finishStop_fixedPart : (finishStop s).fixedPart = s.fixedPart := by
  rw [finishStop_eq]
  rfl

@[simp] theorem closeAndReport_fixedPart : (closeAndReport s).fixedPart = s.fixedPart := by
  unfold closeAndReport
  split
  · dsimp only
    split <;> simp
  · rfl

@[simp] theorem foldOrComplete_fixedPart (d : Level) : (foldOrComplete d s).fixedPart = s.fixedPart := by
  unfold foldOrComplete
  split <;> simp

@[simp] theorem flushIfFull_fixedPart : (flushIfFull s).fixedPart = s.fixedPart := by
  unfold flushIfFull
  split <;> simp

end

/-- The rule of a row leaves the fixed part alone. -/
theorem performRow_keeps_fixedPart (i : Instr) (s t : State) (h : performRow i s = .next t) :
    t.fixedPart = s.fixedPart := by
  rcases performRow_next i s t h with rfl | ⟨v, rfl⟩ | ⟨k, rfl⟩ | hstop | ⟨d, hbit⟩ | ⟨d, hbit⟩
  · rfl
  · rfl
  · rfl
  · rcases stopHandler_next s t hstop with ⟨-, rfl⟩ | ⟨-, -, rfl⟩ <;> simp
  · obtain ⟨-, rfl⟩ := execBit2w_next d s t hbit
    simp
  · obtain ⟨-, rfl⟩ := execBit3w_next d s t hbit
    simp

/-- So does evaluating a sample (R100). -/
theorem eval_keeps_fixedPart (s t : State) (h : eval s = .next t) : t.fixedPart = s.fixedPart := by
  obtain ⟨u, hu, rfl⟩ := eval_next s t h
  simpa using performRow_keeps_fixedPart _ s u hu

/-- And so does every transaction, once transferred. -/
theorem exec_selected_keeps_fixedPart (a t : State) (h : exec a.selected a = .next t) : t.fixedPart = a.fixedPart := by
  rcases exec_selected_next a t h with
    ⟨-, -, rfl⟩ | ⟨-, -, rfl⟩ | ⟨-, -, -, hsample⟩ | ⟨-, -, -, hstart⟩
  · rfl
  · rfl
  · simpa using eval_keeps_fixedPart _ t (execSample_next a t hsample).2
  · rcases execDecodeStart_next a t hstart with ⟨-, rfl⟩ | ⟨-, rfl⟩ | ⟨-, -, -, heval⟩
    · rfl
    · rfl
    · simpa using eval_keeps_fixedPart _ t heval

/-- Settles O17: a drain cycle and an idle step leave the parameters, and a transaction leaves the fixed part of the state in
which it was transferred. -/
theorem stepKeepsParametersAndEdge : Obligations.StepKeepsParametersAndEdge := by
  intro s t h
  rcases step_next s t h with ⟨hw, rfl⟩ | ⟨-, hq, rfl⟩ | ⟨q, rest, -, hq, hexec⟩
  · exact ⟨by rw [drainCycle_eq], fun hnil => absurd hnil hw⟩
  · exact ⟨rfl, fun _ => ⟨by rw [hq]; rfl, rfl, rfl⟩⟩
  · have hfixed : t.fixedPart = (s.par, rest, s.outReady, s.sent) := exec_selected_keeps_fixedPart _ t hexec
    simp only [State.fixedPart, Prod.mk.injEq] at hfixed
    obtain ⟨hpar, hinq, hready, hsent⟩ := hfixed
    exact ⟨hpar, fun _ => ⟨by rw [hinq, hq]; rfl, hsent, hready⟩⟩

end Sys2Proof.Machine
end

section
/-! SUPPORT. The widths under each shared operation: what is read from a state that fits, which records fit, and that each operation keeps the widths of a started core. -/

namespace Sys2Proof.Machine

/-! Values read from a state that fits. -/

/-- A saturating count fits its register (R25). -/
theorem saturate_lt (n v : Nat) : saturate n v < 2 ^ n := by
  have hpos : 0 < 2 ^ n := Nat.two_pow_pos n
  unfold saturate
  omega

/-- An empty bit record lies within every bound. -/
theorem empty_within (n : Nat) : BitRec.empty.within n := ⟨Nat.zero_le n, Nat.zero_le n⟩

/-- A cleared buffer or bit list lies within every bound. -/
theorem replicate_empty_within (k n : Nat) : ∀ b ∈ (Vector.replicate k BitRec.empty).toList, b.within n := by
  intro b hb
  rw [Vector.toList_replicate] at hb
  exact List.eq_of_mem_replicate hb ▸ empty_within n

/-- Writing one entry within a bound keeps the buffer within it. -/
theorem setIfInBounds_within {n i : Nat} {v : Vector BitRec 9} {b : BitRec} (hv : ∀ c ∈ v.toList, c.within n)
    (hb : b.within n) : ∀ c ∈ (v.setIfInBounds i b).toList, c.within n := by
  intro c hc
  rw [Vector.toList_setIfInBounds] at hc
  rcases List.mem_or_eq_of_mem_set hc with hold | rfl
  · exact hv c hold
  · exact hb

/-- Every entry of the buffer, the empty ones past its end included, lies within the current sample. -/
theorem bitAt_within {s : State} (h : s.Fits) (i : Nat) : (s.bitAt i).within s.sn := by
  unfold State.bitAt
  cases hi : s.bits[i]? with
  | none => exact empty_within s.sn
  | some b => exact h.bits b (Vector.mem_toList_iff.mpr (Vector.mem_of_getElem? hi))

/-- The bit list of a byte record lies within the current sample (R92, R161). -/
theorem bitList_within {s : State} (h : s.Fits) (n : Nat) : ∀ b ∈ (s.bitList n).toList, b.within s.sn := by
  have hentry : ∀ i, (if i < n then s.bitAt i else BitRec.empty).within s.sn := by
    intro i
    split
    · exact bitAt_within h i
    · exact empty_within s.sn
  intro b hb
  simp only [State.bitList, Vector.toList_mk, List.mem_cons, List.not_mem_nil, or_false] at hb
  rcases hb with rfl | rfl | rfl | rfl | rfl | rfl | rfl | rfl <;> exact hentry _

/-- The bitrate fits its field: at most `2^W_SN - 1` bits at a rate below `2^W_SR` (R183). -/
theorem bitrate_lt {s : State} (h : s.Fits) : s.bitrate < 2 ^ (s.par.wSn + s.par.wSr) := by
  have hcount : s.pduBitCount < 2 ^ s.par.wSn := Nat.lt_of_le_of_lt h.pduBitCount h.sn
  calc s.bitrate ≤ s.pduBitCount * s.cRate := Nat.div_le_self ..
    _ < 2 ^ s.par.wSn * 2 ^ s.par.wSr := Nat.mul_lt_mul'' hcount h.cRate
    _ = 2 ^ (s.par.wSn + s.par.wSr) := (Nat.pow_add ..).symm

/-! Records that fit. -/

/-- A record without a bit list fits when its span and its rate do. -/
theorem record_fits_of_no_bits {p : Params} {r : Record} (hss : r.ss < 2 ^ p.wSn) (hes : r.es < 2 ^ p.wSn)
    (hrate : r.rate < 2 ^ (p.wSn + p.wSr)) (hbits : r.blist = Vector.replicate 8 BitRec.empty) : r.Fits p where
  span := ⟨hss, hes⟩
  entries := hbits ▸ replicate_empty_within 8 _
  rate := hrate

/-- The record of a bit within the current sample fits. -/
theorem bitRecord_fits {s : State} (h : s.Fits) {b : BitRec} (hb : b.within s.sn) : (bitRecord b).Fits s.par :=
  record_fits_of_no_bits (Nat.lt_of_le_of_lt hb.1 h.sn) (Nat.lt_of_le_of_lt hb.2 h.sn) (Nat.two_pow_pos _) rfl

/-- The record of a byte fits (R92, R161). -/
theorem byteRecord_fits {s : State} (h : s.Fits) (n : Nat) : (byteRecord n s).Fits s.par where
  span := ⟨h.byteSs, h.sn⟩
  entries b hb :=
    have ⟨hss, hes⟩ := bitList_within h n b hb
    have hsn := Nat.le_sub_one_of_lt h.sn
    ⟨hss.trans hsn, hes.trans hsn⟩
  rate := Nat.two_pow_pos _

/-! The current sample, which no operation of a row moves. -/

section
variable (s : State)

@[simp] theorem closePrev_sn (n : Nat) : (closePrev n s).sn = s.sn := by
  rw [closePrev_frame]

@[simp] theorem flush_sn : (flush s).sn = s.sn := by
  by_cases h : s.bitCount = 0
  · rw [flush_of_zero s h]
  · rw [flush_of_pos s h]

@[simp] theorem timingReport_sn : (timingReport s).sn = s.sn := by
  obtain ⟨rs, -, h⟩ := timingReport_frame s
  rw [h]

@[simp] theorem closeAndReport_sn : (closeAndReport s).sn = s.sn := by
  unfold closeAndReport
  split
  · dsimp only
    split <;> simp
  · rfl

@[simp] theorem flushIfFull_sn : (flushIfFull s).sn = s.sn := by
  unfold flushIfFull
  split <;> simp

end

/-! The shared operations, in a started core. -/

/-- A started core whose numbers fit: what the operations a sample performs keep. Once started, `State.Fits.beforeStart` says
nothing. -/
structure State.FitsStarted (s : State) : Prop extends State.Fits s where
  started : s.started = true

/-- A started core is not before decode start. -/
theorem State.FitsStarted.not_before {s : State} {P : Prop} (h : s.FitsStarted) (hs : s.started = false) : P :=
  absurd (h.started.symm.trans hs) (by decide)

section
variable {s : State} (h : s.FitsStarted)
include h

theorem emitAll_fits {rs : List Record} (hrs : ∀ r ∈ rs, r.Fits s.par) : (emitAll rs s).FitsStarted :=
  { h with
    records := by
      intro r hr
      simp only [State.observed, emitAll_sent, emitAll_waiting, ← List.append_assoc] at hr
      rcases List.mem_append.mp hr with hold | hnew
      · exact h.records r hold
      · exact hrs r hnew }

theorem emit_fits {r : Record} (hr : r.Fits s.par) : (emit r s).FitsStarted :=
  emitAll_fits h (rs := [r]) (by simpa using hr)

/-- Records of START, STOP, ACK and NACK: a start sample up to now, the end sample now. -/
theorem emit_mark_fits {k : Kind} {n : Nat} (hn : n ≤ s.sn) :
    (emit { kind := k, ss := n, es := s.sn } s).FitsStarted :=
  emit_fits h (record_fits_of_no_bits (Nat.lt_of_le_of_lt hn h.sn) h.sn (Nat.two_pow_pos _) rfl)

theorem setState_fits (f : Fsm) : ({ s with state := f } : State).FitsStarted :=
  { h with beforeStart := h.not_before }

theorem setVariant_fits (v : Variant) : ({ s with variant := v } : State).FitsStarted := { h with }

theorem clearAccumulator_fits : (clearAccumulator s).FitsStarted :=
  { h with bits := replicate_empty_within 9 _, beforeStart := h.not_before }

theorem closePrev_fits {n : Nat} (hn : n ≤ s.sn) : (closePrev n s).FitsStarted := by
  unfold closePrev
  split
  · exact { h with
      bits := setIfInBounds_within h.bits ⟨(bitAt_within h.toFits _).1, hn⟩
      beforeStart := h.not_before }
  · exact h

theorem append_fits (d : Level) {n : Nat} (hn : n ≤ s.sn) : (append d n s).FitsStarted :=
  { h with
    byteSs := by
      rw [append_byteSs]
      split
      · exact Nat.lt_of_le_of_lt hn h.sn
      · exact h.byteSs
    bits := setIfInBounds_within h.bits ⟨hn, hn⟩
    beforeStart := h.not_before }

theorem fold_fits (d : Level) : (fold d s).FitsStarted := { h with }

/-- The one operation that needs room: the count of bits stays within the sample index only if it lay below it. -/
theorem countBit_fits (hroom : s.pduBitCount < s.sn) : (countBit s).FitsStarted :=
  { h with pduBitCount := hroom, beforeStart := h.not_before }

theorem emitByte_fits (n : Nat) : (emitByte n s).FitsStarted :=
  { emit_fits h (byteRecord_fits h.toFits n) with byteCount := saturate_lt .. }

theorem flush_fits : (flush s).FitsStarted := by
  unfold flush
  split
  · exact h
  · have hclosed : (closePrev s.sn s).FitsStarted := closePrev_fits h le_rfl
    refine clearAccumulator_fits (emitByte_fits (emitAll_fits hclosed fun r hr => ?_) _)
    obtain ⟨b, hb, rfl⟩ := List.mem_map.mp hr
    exact bitRecord_fits hclosed.toFits (hclosed.bits b (List.mem_of_mem_take hb))

theorem timingReport_fits : (timingReport s).FitsStarted := by
  unfold timingReport
  split
  · exact h
  · exact emit_fits h (record_fits_of_no_bits h.byteSs h.sn (bitrate_lt h.toFits) rfl)

theorem finishStop_fits : (finishStop s).FitsStarted := by
  have hstop := emit_mark_fits (k := .stop) (timingReport_fits h) le_rfl
  rw [timingReport_sn] at hstop
  exact setState_fits (clearAccumulator_fits hstop) .findStart

theorem stopHandler_fits {t : State} (ht : stopHandler s = .next t) : t.FitsStarted := by
  rcases stopHandler_next s t ht with ⟨-, rfl⟩ | ⟨-, -, rfl⟩
  · exact finishStop_fits h
  · exact finishStop_fits (flush_fits h)

theorem startHandler_fits : (startHandler s).FitsStarted :=
  have hcleared : (clearAccumulator { s with pduSs := s.sn, pduBitCount := 0, byteCount := 0 }).FitsStarted :=
    clearAccumulator_fits
      { h with
        pduSs := le_rfl
        pduBitCount := Nat.zero_le _
        byteCount := Nat.two_pow_pos _
        beforeStart := h.not_before }
  setState_fits (emit_mark_fits hcleared le_rfl) .findData

theorem answer_fits (k : Kind) : (answer k s).FitsStarted :=
  setState_fits (emit_mark_fits h h.ackSs) .findData

theorem byteComplete2w_fits : (byteComplete2w s).FitsStarted :=
  have hemitted : (emitByte 8 s).FitsStarted := emitByte_fits h 8
  have hlatched : ({ emitByte 8 s with ackSs := (s.bitAt 7).es } : State).FitsStarted :=
    { hemitted with ackSs := (bitAt_within h.toFits 7).2, beforeStart := h.not_before }
  setState_fits (clearAccumulator_fits hlatched) .findAck

theorem closeAndReport_fits : (closeAndReport s).FitsStarted := by
  have hclosed : (closePrev s.sn s).FitsStarted := closePrev_fits h le_rfl
  unfold closeAndReport
  split
  · dsimp only
    split
    · exact emit_fits hclosed (bitRecord_fits hclosed.toFits (bitAt_within hclosed.toFits _))
    · exact hclosed
  · exact h

theorem foldOrComplete_fits (d : Level) : (foldOrComplete d s).FitsStarted := by
  unfold foldOrComplete
  split
  · exact fold_fits h d
  · exact byteComplete2w_fits h

theorem flushIfFull_fits : (flushIfFull s).FitsStarted := by
  unfold flushIfFull
  split
  · exact flush_fits h
  · exact h

theorem execBit2w_fits (hroom : s.pduBitCount < s.sn) {d : Level} {t : State} (ht : execBit2w d s = .next t) :
    t.FitsStarted := by
  obtain ⟨-, rfl⟩ := execBit2w_next d s t ht
  have hreported := closeAndReport_fits (countBit_fits h hroom)
  exact foldOrComplete_fits (append_fits hreported d (by simp)) d

theorem execBit3w_fits (hroom : s.pduBitCount < s.sn) {d : Level} {t : State} (ht : execBit3w d s = .next t) :
    t.FitsStarted := by
  obtain ⟨-, rfl⟩ := execBit3w_next d s t ht
  have hflushed := flushIfFull_fits (countBit_fits h hroom)
  have hclosed := closePrev_fits hflushed (n := s.sn) (by simp)
  exact fold_fits (append_fits hclosed d (by simp)) d

/-! The sample. -/

/-- The row a sample selects keeps the widths: outside FIND_START it may count a bit, for which the sample index has left room. -/
theorem performRow_fits (hroom : s.state = .findStart ∨ s.pduBitCount < s.sn) {t : State}
    (ht : performRow (Sys2Proof.decodeVector s.decodeVector) s = .next t) : t.FitsStarted := by
  rcases hroom with hstate | hroom
  · rcases performRow_next_of_findStart s t hstate ht with rfl | ⟨v, rfl⟩
    · exact h
    · exact startHandler_fits (setVariant_fits h v)
  · rcases performRow_next _ s t ht with rfl | ⟨v, rfl⟩ | ⟨k, rfl⟩ | hstop | ⟨d, hbit⟩ | ⟨d, hbit⟩
    · exact h
    · exact startHandler_fits (setVariant_fits h v)
    · exact answer_fits h k
    · exact stopHandler_fits h hstop
    · exact execBit2w_fits h hroom hbit
    · exact execBit3w_fits h hroom hbit

theorem latchPrev_fits (cur : Levels) : (latchPrev cur s).FitsStarted := { h with }

theorem eval_fits (hroom : s.state = .findStart ∨ s.pduBitCount < s.sn) {t : State} (ht : eval s = .next t) :
    t.FitsStarted := by
  obtain ⟨u, hu, rfl⟩ := eval_next s t ht
  exact latchPrev_fits (performRow_fits h hroom hu) _

/-- Below the last sample index the next one still fits (R236). -/
theorem nextSample_fits (hlast : s.sn < s.lastSample) : (nextSample s).FitsStarted :=
  { h with
    sn := Nat.add_lt_of_lt_sub hlast
    pduSs := Nat.le_succ_of_le h.pduSs
    ackSs := Nat.le_succ_of_le h.ackSs
    pduBitCount := Nat.le_succ_of_le h.pduBitCount
    bits := fun b hb =>
      have ⟨hss, hes⟩ := h.bits b hb
      ⟨Nat.le_succ_of_le hss, Nat.le_succ_of_le hes⟩
    beforeStart := h.not_before }

/-- A SAMPLE keeps the widths: the index moves on by one, which is the room one more bit needs. -/
theorem execSample_fits {t : State} (ht : execSample s = .next t) : t.FitsStarted := by
  obtain ⟨hlast, heval⟩ := execSample_next s t ht
  exact eval_fits (nextSample_fits h hlast) (.inr (Nat.lt_succ_of_le h.pduBitCount)) heval

end

/-! Decode start, RESET, and the steps around a transaction. -/

/-- A drain cycle moves a record from those waiting to those taken, in order (R231). -/
theorem drainCycle_observed (s : State) : (drainCycle s).observed = s.observed := by
  rw [drainCycle_eq]
  unfold State.observed
  cases s.outReadyNow with
  | false => simp
  | true => cases hw : s.waiting <;> simp

section
variable {s : State} (h : s.Fits)
include h

/-- Latching the configuration starts the core; the port carries the low `W_SR` bits of the rate (R10). -/
theorem latchConfig_fits : (latchConfig s).FitsStarted :=
  { h with
    cRate := Nat.mod_lt _ (Nat.two_pow_pos _)
    started := rfl
    beforeStart := fun hs => Bool.noConfusion hs }

/-- DECODE_START keeps the widths: it runs in FIND_START with the sample index at 0, where RESET left them. -/
theorem execDecodeStart_fits (hs : s.started = false) {t : State} (ht : execDecodeStart s = .next t) :
    t.FitsStarted := by
  have hlatched : (latchConfig s).FitsStarted := latchConfig_fits h
  rcases execDecodeStart_next s t ht with ⟨-, rfl⟩ | ⟨-, rfl⟩ | ⟨-, -, -, heval⟩
  · exact { hlatched with }
  · exact { hlatched with }
  · obtain ⟨hstate, hsn, -⟩ := h.beforeStart hs
    rw [firstSample_of_zero (latchConfig s) hsn] at heval
    exact eval_fits (latchPrev_fits hlatched _) (.inl hstate) heval

/-- A drain cycle changes no number, and the records are still the same ones. -/
theorem drainCycle_fits : (drainCycle s).Fits := by
  have hobserved := drainCycle_observed s
  rw [drainCycle_eq] at hobserved ⊢
  exact { h with records := hobserved ▸ h.records }

theorem accept_fits (q : Request) (rest : List Request) : (accept q rest s).Fits := { h with }

end

/-- RESET gives registers that fit, whatever they held: only the parameters and the records stay (R220). -/
theorem resetRegisters_fits {s : State} (hpar : s.par.wf) (hrecords : ∀ r ∈ s.observed, r.Fits s.par) :
    (resetRegisters s).Fits where
  params := hpar
  sn := Nat.two_pow_pos _
  pduSs := le_rfl
  ackSs := le_rfl
  pduBitCount := le_rfl
  byteSs := have ⟨_, _, _, hreset⟩ := hpar; hreset
  byteCount := Nat.two_pow_pos _
  cRate := Nat.two_pow_pos _
  bits := replicate_empty_within 9 _
  records := hrecords
  beforeStart _ := ⟨rfl, rfl, rfl, rfl, rfl, replicate_empty_within 9 _⟩

/-- Every transaction, once transferred, keeps the widths. -/
theorem exec_selected_fits {a t : State} (h : a.Fits) (ht : exec a.selected a = .next t) : t.Fits := by
  rcases exec_selected_next a t ht with
    ⟨-, -, rfl⟩ | ⟨-, -, rfl⟩ | ⟨-, -, hs, hsample⟩ | ⟨-, -, hs, hstart⟩
  · exact resetRegisters_fits h.params h.records
  · exact h
  · exact (execSample_fits ⟨h, hs⟩ hsample).toFits
  · exact (execDecodeStart_fits h hs hstart).toFits

/-! The obligations. -/

/-- Settles O45, by what a step can do: a drain cycle, nothing, or a transaction. -/
theorem stepKeepsWidths : Obligations.StepKeepsWidths := by
  intro s t h ht
  rcases step_next s t ht with ⟨-, rfl⟩ | ⟨-, -, rfl⟩ | ⟨q, rest, -, -, hexec⟩
  · exact drainCycle_fits h
  · exact h
  · exact exec_selected_fits (accept_fits h q rest) hexec

/-- Settles O46: power-on leaves what RESET does, the parameters are the spec's, and no record has been emitted. -/
theorem resetFits : Obligations.ResetFits :=
  have hrecords : ∀ r ∈ State.reset.observed, r.Fits State.reset.par := fun _ hr => absurd hr List.not_mem_nil
  show (resetRegisters State.reset).Fits from resetRegisters_fits (by decide) hrecords

end Sys2Proof.Machine
end

section
/-! SUPPORT. The invariants of R36 under each shared operation: what each operation of a sample keeps, and the one bit that a clock edge takes. -/

namespace Sys2Proof.Machine

/-! The rows a sample can select inside a session. -/

/-- In FIND_DATA a sample does nothing, ends the session, or takes a bit in the session's own variant (R106 to R109). -/
theorem performRow_next_of_findData (s t : State) (hs : s.state = .findData)
    (h : performRow (Sys2Proof.decodeVector s.decodeVector) s = .next t) :
    t = s ∨ stopHandler s = .next t ∨ (s.variant = .twoWire ∧ execBit2w s.cur.dat s = .next t) ∨
      (s.variant = .threeWire ∧ execBit3w s.cur.dat s = .next t) := by
  rw [decodeVector_of_findData s hs] at h
  split at h
  · exact .inr (.inl h)
  · split at h
    · exact .inr (.inl h)
    · split at h
      · cases hv : s.variant with
        | twoWire => exact .inr (.inr (.inl ⟨rfl, by rw [hv] at h; exact h⟩))
        | threeWire => exact .inr (.inr (.inr ⟨rfl, by rw [hv] at h; exact h⟩))
      · exact .inl (Host.Outcome.next.inj h).symm

/-- In FIND_ACK a sample does nothing or reports the answer (R164 to R166). -/
theorem performRow_next_of_findAck (s t : State) (hs : s.state = .findAck)
    (h : performRow (Sys2Proof.decodeVector s.decodeVector) s = .next t) : t = s ∨ ∃ k, t = answer k s := by
  rw [decodeVector_of_findAck s hs] at h
  split at h
  · split at h
    · exact .inr ⟨.nack, (Host.Outcome.next.inj h).symm⟩
    · exact .inr ⟨.ack, (Host.Outcome.next.inj h).symm⟩
  · exact .inl (Host.Outcome.next.inj h).symm

/-! The bit that a clock edge takes. -/

/-- What BIT_2W and BIT_3W do alike to a byte with room for the bit: count it, close the bit before it, append it and fold it
(R143, R145). -/
def takeBit (d : Level) (s : State) : State := fold d (append d s.sn (closePrev s.sn (countBit s)))

/-- The fold moves every bit one place down and puts the new one at the top (R142). -/
theorem foldBit_getLsbD (value : Byte) (d : Level) {i : Nat} (hi : i < 8) :
    (foldBit value d).getLsbD i = if i = 7 then d else value.getLsbD (i + 1) := by
  interval_cases i <;> simp [foldBit]

/-- The first part of BIT_2W is CLOSE_PREV and at most a record (R143). -/
theorem closeAndReport_eq_emitAll (s : State) : ∃ rs, closeAndReport s = emitAll rs (closePrev s.sn s) := by
  have hnone : ∀ u : State, u = emitAll [] u := fun u => by simp [emitAll]
  unfold closeAndReport
  split
  · dsimp only
    split
    · exact ⟨[_], rfl⟩
    · exact ⟨[], hnone _⟩
  · next hpos => exact ⟨[], by rw [closePrev, if_neg hpos]; exact hnone s⟩

section
variable (d : Level) (s : State)

/-- What taking a bit writes, and that it writes nothing else; the entries of the buffer are said by `takeBit_bitAt`. -/
theorem takeBit_eq :
    takeBit d s =
      { s with
        pduBitCount := s.pduBitCount + 1
        byteSs := if s.bitCount = 0 then s.sn else s.byteSs
        bits := (takeBit d s).bits
        bitCount := s.bitCount + 1
        value := foldBit s.value d } := by
  unfold takeBit
  rw [closePrev_frame]
  rfl

theorem takeBit_bitCount_toNat (hroom : s.bitCount.toNat ≤ 7) : (takeBit d s).bitCount.toNat = s.bitCount.toNat + 1 := by
  rw [takeBit_eq]
  have := s.bitCount.isLt
  simp only [BitVec.toNat_add]
  change (s.bitCount.toNat + 1) % 16 = _
  omega

/-- The first bit of a byte sets its start sample (R141). -/
theorem takeBit_byteSs : (takeBit d s).byteSs = if s.bitCount.toNat = 0 then s.sn else s.byteSs := by
  rw [takeBit_eq]
  exact if_congr (by rw [← BitVec.toNat_inj]; rfl) rfl rfl

/-- The entry at the new bit's place is the new bit, open; the newest one before it ends now, and the others stay (R141). -/
theorem takeBit_bitAt (hroom : s.bitCount.toNat ≤ 7) {i : Nat} (hi : i ≤ s.bitCount.toNat) :
    (takeBit d s).bitAt i =
      if i = s.bitCount.toNat then { v := d, ss := s.sn, es := s.sn }
      else if i + 1 = s.bitCount.toNat then { s.bitAt i with es := s.sn }
      else s.bitAt i := by
  have hcount : (closePrev s.sn (countBit s)).bitCount = s.bitCount := by rw [closePrev_frame]; rfl
  have hnew : (takeBit d s).bitAt i = if s.bitCount.toNat = i ∧ i < 9 then { v := d, ss := s.sn, es := s.sn }
      else (closePrev s.sn (countBit s)).bitAt i := by
    rw [← hcount]
    exact append_bitAt ..
  rw [hnew]
  by_cases hlast : i = s.bitCount.toNat
  · rw [if_pos ⟨hlast.symm, by omega⟩, if_pos hlast]
  · have hclosed : closePrev s.sn (countBit s) = closeEntry (s.bitCount.toNat - 1) s.sn (countBit s) :=
      closePrev_of_pos s.sn (countBit s) (show 1 ≤ s.bitCount.toNat by omega)
    rw [if_neg (fun h => hlast h.1.symm), if_neg hlast, hclosed, closeEntry_bitAt]
    by_cases hprev : i + 1 = s.bitCount.toNat
    · rw [if_pos hprev, if_pos (by omega), ← hprev]
      rfl
    · rw [if_neg hprev, if_neg (by omega)]
      rfl

end

/-- BIT_2W with room for the bit takes it, and reports at most the bit before it (R143). -/
theorem execBit2w_next_of_room (d : Level) (s t : State) (hroom : s.bitCount.toNat ≤ 7) (h : execBit2w d s = .next t) :
    ∃ rs, t = emitAll rs (takeBit d s) := by
  obtain ⟨-, rfl⟩ := execBit2w_next d s t h
  obtain ⟨rs, hrs⟩ := closeAndReport_eq_emitAll (countBit s)
  refine ⟨rs, ?_⟩
  have hcount : (takeBit d s).bitCount.toNat ≤ 8 := by
    rw [takeBit_bitCount_toNat d s hroom]
    omega
  rw [hrs]
  exact if_pos hcount

/-- BIT_2W on a full byte completes it: what is left of the state before, and what the ninth edge writes (R143, R144, R163). -/
theorem execBit2w_next_of_full (d : Level) (s t : State) (hfull : s.bitCount = 8) (h : execBit2w d s = .next t) :
    ∃ records count ss, t =
      { clearAccumulator s with
        pduBitCount := s.pduBitCount + 1
        waiting := records
        byteCount := count
        ackSs := ss
        state := .findAck } := by
  obtain ⟨-, rfl⟩ := execBit2w_next d s t h
  obtain ⟨rs, hrs⟩ := closeAndReport_eq_emitAll (countBit s)
  have happend : append d s.sn (closeAndReport (countBit s)) =
      { s with
        pduBitCount := s.pduBitCount + 1
        waiting := s.waiting ++ rs
        bits := (append d s.sn (closeAndReport (countBit s))).bits
        bitCount := 9 } := by
    rw [hrs, closePrev_frame]
    simp [append, emitAll, countBit, hfull]
  rw [happend]
  exact ⟨_, _, _, rfl⟩

/-- CLOSE_PREV neither reads nor writes the count of the session's bits. -/
theorem closePrev_countBit (n : Nat) (s : State) : closePrev n (countBit s) = countBit (closePrev n s) := by
  unfold closePrev
  rw [countBit_bitCount]
  split <;> rfl

/-- Nor does the flush of a full byte. -/
theorem flushIfFull_countBit (s : State) : flushIfFull (countBit s) = countBit (flushIfFull s) := by
  have hflush : flush (countBit s) = countBit (flush s) := by
    by_cases hzero : s.bitCount = 0
    · rw [flush_of_zero s hzero, flush_of_zero (countBit s) hzero]
    · rw [flush_of_pos s hzero, flush_of_pos (countBit s) hzero, countBit_sn, closePrev_countBit]
      rfl
  unfold flushIfFull
  rw [countBit_bitCount, hflush]
  split <;> rfl

/-- BIT_3W takes the bit, into an empty byte when the one held is full (R145). -/
theorem execBit3w_next_eq_takeBit (d : Level) (s t : State) (h : execBit3w d s = .next t) :
    t = takeBit d (flushIfFull s) := by
  obtain ⟨-, rfl⟩ := execBit3w_next d s t h
  rw [flushIfFull_countBit, takeBit, flushIfFull_sn]

/-! What keeps the invariants. -/

section
variable {s : State} (h : s.Sound)
include h

/-- Records are no part of the invariants. -/
theorem emitAll_sound (rs : List Record) : (emitAll rs s).Sound := { h with }

theorem clearAccumulator_sound : (clearAccumulator s).Sound :=
  { h with
    ackPhase := fun hs => ⟨(h.ackPhase hs).1, rfl⟩
    countAtMostEight := Nat.zero_le _
    tiled := nofun
    pendingOpen := nofun
    byteStart := nofun
    valueHigh := nofun
    valueLow := fun _ _ => BitVec.getLsbD_zero
    bitsCounted := Nat.zero_le _
    beforeStart := fun hs =>
      have ⟨herr, hstate, _, hrest⟩ := h.beforeStart hs
      ⟨herr, hstate, rfl, hrest⟩ }

theorem flush_sound : (flush s).Sound := by
  by_cases hzero : s.bitCount = 0
  · rwa [flush_of_zero s hzero]
  · rw [flush_of_pos s hzero]
    exact { clearAccumulator_sound h with }

theorem flushIfFull_sound : (flushIfFull s).Sound := by
  unfold flushIfFull
  split
  · exact flush_sound h
  · exact h

/-- Inside a session the core has started. -/
theorem State.Sound.started_of_state_ne (hstate : s.state ≠ .findStart) : s.started = true := by
  by_contra hno
  have ⟨_, hstart, _⟩ := h.beforeStart (by simpa using hno)
  exact hstate hstart

/-- A byte that is not full has room for a bit (R36 item 3). -/
theorem State.Sound.room_of_not_full (hfull : s.bitCount ≠ 8) : s.bitCount.toNat ≤ 7 := by
  have hne : s.bitCount.toNat ≠ 8 := fun heq => hfull (BitVec.eq_of_toNat_eq heq)
  have hle := h.countAtMostEight
  omega

/-- The bit taken starts where the one before it ends (R36 item 4). -/
theorem takeBit_tiled (d : Level) (hroom : s.bitCount.toNat ≤ 7) {i : Nat} (hi : i < s.bitCount.toNat) :
    ((takeBit d s).bitAt i).es = ((takeBit d s).bitAt (i + 1)).ss := by
  rw [takeBit_bitAt d s hroom hi.le, takeBit_bitAt d s hroom hi, if_neg hi.ne]
  by_cases hlast : i + 1 = s.bitCount.toNat
  · rw [if_pos hlast, if_pos hlast]
  · rw [if_neg hlast, if_neg hlast, apply_ite BitRec.ss, ite_self]
    exact h.tiled i (by omega)

/-- The shift register holds the bits held, the newest at the top (R36 item 5). -/
theorem takeBit_valueHigh (d : Level) (hroom : s.bitCount.toNat ≤ 7) {i : Nat} (hi : i ≤ s.bitCount.toNat) :
    (foldBit s.value d).getLsbD (7 - s.bitCount.toNat + i) = ((takeBit d s).bitAt i).v := by
  rw [foldBit_getLsbD s.value d (by omega), takeBit_bitAt d s hroom hi]
  by_cases hnew : i = s.bitCount.toNat
  · rw [if_pos (by omega), if_pos hnew]
  · rw [if_neg (by omega), if_neg hnew, apply_ite BitRec.v, ite_self, ← h.valueHigh i (by omega)]
    congr 1
    omega

/-- Under the bits held the shift register stays zero (R63). -/
theorem takeBit_valueLow (d : Level) {i : Nat} (hi : i < 7 - s.bitCount.toNat) :
    (foldBit s.value d).getLsbD i = false := by
  rw [foldBit_getLsbD s.value d (by omega), if_neg (by omega)]
  exact h.valueLow (i + 1) (by omega)

/-- One more bit, into a byte with room for it, inside a session: the invariants that a state between CLOSE_PREV and APPEND does not
meet hold again. -/
theorem takeBit_sound (d : Level) (hstate : s.state = .findData) (hroom : s.bitCount.toNat ≤ 7) : (takeBit d s).Sound := by
  have hcount := takeBit_bitCount_toNat d s hroom
  have hvalue : (takeBit d s).value = foldBit s.value d := by rw [takeBit_eq]
  have hsession : (takeBit d s).state = .findData := by rw [takeBit_eq]; exact hstate
  constructor
  case notFindStop => simp [hsession]
  case ackPhase => simp [hsession]
  case countAtMostEight => omega
  case tiled =>
    intro i hi
    exact takeBit_tiled h d hroom (by omega)
  case pendingOpen =>
    rw [hcount, Nat.add_sub_cancel, takeBit_bitAt d s hroom le_rfl, if_pos rfl]
    simp
  case byteStart =>
    intro _
    rw [takeBit_byteSs, takeBit_bitAt d s hroom (Nat.zero_le _)]
    by_cases hnone : s.bitCount.toNat = 0
    · rw [if_pos hnone, if_pos hnone.symm]
    · rw [if_neg hnone, if_neg (Ne.symm hnone), apply_ite BitRec.ss, ite_self]
      exact h.byteStart (by omega)
  case valueHigh =>
    intro i hi
    rw [hcount] at hi ⊢
    rw [hvalue, ← takeBit_valueHigh h d hroom (by omega)]
    congr 1
    omega
  case valueLow =>
    intro i hi
    rw [hvalue]
    exact takeBit_valueLow h d (by omega)
  case startBeforeByte =>
    intro _
    have hpdu : (takeBit d s).pduSs = s.pduSs := by rw [takeBit_eq]
    rw [takeBit_byteSs, hpdu]
    split
    · exact h.startPast
    · next hsome => exact h.startBeforeByte (le_trans (by omega) h.bitsCounted)
  case bitsCounted =>
    rw [hcount, takeBit_eq]
    exact Nat.succ_le_succ h.bitsCounted
  case startPast =>
    rw [takeBit_eq]
    exact h.startPast
  case beforeStart =>
    rw [takeBit_eq]
    exact fun hno => nomatch (h.started_of_state_ne (by simp [hstate])).symm.trans hno
  case runningReady =>
    rw [takeBit_eq]
    exact h.runningReady

/-- The ninth edge of a 2-wire byte leaves an empty accumulator and enters FIND_ACK (R163). -/
theorem execBit2w_sound {d : Level} {t : State} (hstate : s.state = .findData) (hvariant : s.variant = .twoWire)
    (ht : execBit2w d s = .next t) : t.Sound := by
  by_cases hfull : s.bitCount = 8
  · obtain ⟨records, count, ss, rfl⟩ := execBit2w_next_of_full d s t hfull ht
    have height : 8 ≤ s.pduBitCount := by simpa [hfull] using h.bitsCounted
    have hstarted := h.started_of_state_ne (by simp [hstate])
    exact { clearAccumulator_sound h with
      notFindStop := by simp
      ackPhase := fun _ => ⟨hvariant, rfl⟩
      startBeforeByte := fun _ => h.startBeforeByte (by omega)
      bitsCounted := Nat.zero_le _
      beforeStart := fun hno => nomatch hstarted.symm.trans hno }
  · have hroom := h.room_of_not_full hfull
    obtain ⟨rs, rfl⟩ := execBit2w_next_of_room d s t hroom ht
    exact emitAll_sound (takeBit_sound h d hstate hroom) rs

/-- The ninth edge of a 3-wire byte takes its bit into the flushed accumulator (R145). -/
theorem execBit3w_sound {d : Level} {t : State} (hstate : s.state = .findData) (ht : execBit3w d s = .next t) : t.Sound := by
  rw [execBit3w_next_eq_takeBit d s t ht]
  by_cases hfull : s.bitCount = 8
  · have hflush := flush_of_pos s (by rw [hfull]; decide)
    rw [show flushIfFull s = flush s from if_pos hfull]
    exact takeBit_sound (flush_sound h) d (by rw [hflush]; exact hstate) (by rw [hflush]; exact Nat.zero_le 7)
  · rw [show flushIfFull s = s from if_neg hfull]
    exact takeBit_sound h d hstate (h.room_of_not_full hfull)

/-! Starts, answers and stops. -/

/-- A start opens an empty session at the current sample (R105). -/
theorem startHandler_sound (hs : s.started = true) (v : Variant) : (startHandler { s with variant := v }).Sound :=
  { clearAccumulator_sound h with
    notFindStop := by simp
    ackPhase := nofun
    startBeforeByte := nofun
    bitsCounted := Nat.zero_le _
    startPast := le_rfl
    beforeStart := fun hno => nomatch hs.symm.trans hno }

theorem answer_sound (hs : s.started = true) (k : Kind) : (answer k s).Sound :=
  { h with
    notFindStop := by simp
    ackPhase := nofun
    beforeStart := fun hno => nomatch hs.symm.trans hno }

theorem finishStop_sound : (finishStop s).Sound := by
  rw [finishStop_eq]
  exact { clearAccumulator_sound h with
    notFindStop := by simp
    ackPhase := nofun
    beforeStart := fun hno =>
      have ⟨herr, _, _, hrest⟩ := h.beforeStart hno
      ⟨herr, rfl, rfl, hrest⟩ }

theorem stopHandler_sound {t : State} (ht : stopHandler s = .next t) : t.Sound := by
  rcases stopHandler_next s t ht with ⟨-, rfl⟩ | ⟨-, -, rfl⟩
  · exact finishStop_sound h
  · exact finishStop_sound (flush_sound h)

/-! The sample. -/

/-- The row a sample selects keeps the invariants: which rows a state can select is what each of them needs. -/
theorem performRow_sound (hs : s.started = true) {t : State}
    (ht : performRow (Sys2Proof.decodeVector s.decodeVector) s = .next t) : t.Sound := by
  cases hstate : s.state with
  | findStart =>
    rcases performRow_next_of_findStart s t hstate ht with rfl | ⟨v, rfl⟩
    · exact h
    · exact startHandler_sound h hs v
  | findData =>
    rcases performRow_next_of_findData s t hstate ht with rfl | hstop | ⟨hvariant, hbit⟩ | ⟨-, hbit⟩
    · exact h
    · exact stopHandler_sound h hstop
    · exact execBit2w_sound h hstate hvariant hbit
    · exact execBit3w_sound h hstate hbit
  | findAck =>
    rcases performRow_next_of_findAck s t hstate ht with rfl | ⟨k, rfl⟩
    · exact h
    · exact answer_sound h hs k
  | findStop => exact absurd hstate h.notFindStop

/-- Once a sample is taken there is an earlier one (R31, R100). -/
theorem latchPrev_sound (cur : Levels) : (latchPrev cur s).Sound :=
  { h with
    runningReady := fun hrun =>
      have ⟨hclk, hdat, hrate, _⟩ := h.runningReady hrun
      ⟨hclk, hdat, hrate, rfl⟩ }

theorem eval_sound (hs : s.started = true) {t : State} (ht : eval s = .next t) : t.Sound := by
  obtain ⟨u, hu, rfl⟩ := eval_next s t ht
  exact latchPrev_sound (performRow_sound h hs hu) _

theorem nextSample_sound (hs : s.started = true) : (nextSample s).Sound :=
  { h with
    startPast := Nat.le_succ_of_le h.startPast
    beforeStart := fun hno => nomatch hs.symm.trans hno }

theorem execSample_sound (hs : s.started = true) {t : State} (ht : execSample s = .next t) : t.Sound :=
  have ⟨_, heval⟩ := execSample_next s t ht
  eval_sound (nextSample_sound h hs) hs heval

/-! Decode start, and the steps around a transaction. -/

/-- A decode start that fails its checks halts the core, so that nothing more is asked of the configuration (R202, R203, R205). -/
theorem raiseFatal_latchConfig_sound {code : BitVec 2} (hcode : code ≠ 0) :
    (raiseFatal code (latchConfig s)).Sound :=
  { h with
    beforeStart := nofun
    runningReady := fun hrun => by
      have hhalted : (raiseFatal code (latchConfig s)).halted = true := by simpa [State.halted] using hcode
      simp [State.running, hhalted] at hrun }

/-- A decode start that passes them has all that a running core has, sample 0 included (R201). -/
theorem firstSample_latchConfig_sound (hs : s.started = false) (hclk : s.port.cfgClk = true) (hdat : s.port.cfgDat = true)
    (hrate : s.cfgSamplerate ≠ 0) : (firstSample (latchConfig s)).Sound :=
  { h with
    startPast :=
      have ⟨_, _, _, _, hpdu, _⟩ := h.beforeStart hs
      hpdu.le
    beforeStart := nofun
    runningReady := fun _ => ⟨hclk, hdat, hrate, rfl⟩ }

theorem execDecodeStart_sound (hs : s.started = false) {t : State} (ht : execDecodeStart s = .next t) : t.Sound := by
  rcases execDecodeStart_next s t ht with ⟨-, rfl⟩ | ⟨-, rfl⟩ | ⟨hclk, hdat, hrate, heval⟩
  · exact raiseFatal_latchConfig_sound h (by decide)
  · exact raiseFatal_latchConfig_sound h (by decide)
  · exact eval_sound (firstSample_latchConfig_sound h hs hclk hdat hrate) rfl heval

theorem drainCycle_sound : (drainCycle s).Sound := by
  rw [drainCycle_eq]
  exact { h with }

theorem accept_sound (q : Request) (rest : List Request) : (accept q rest s).Sound := { h with }

end

/-- RESET sets up the invariants, whatever the registers held (R220). -/
theorem resetRegisters_sound (s : State) : (resetRegisters s).Sound where
  notFindStop := by simp
  ackPhase := nofun
  countAtMostEight := Nat.zero_le _
  tiled := nofun
  pendingOpen := nofun
  byteStart := nofun
  valueHigh := nofun
  valueLow _ _ := BitVec.getLsbD_zero
  startBeforeByte := nofun
  bitsCounted := le_rfl
  startPast := le_rfl
  beforeStart _ := ⟨rfl, rfl, rfl, rfl, rfl, rfl⟩
  runningReady := nofun

/-- Every transaction, once transferred, keeps the invariants. -/
theorem exec_selected_sound {a t : State} (h : a.Sound) (ht : exec a.selected a = .next t) : t.Sound := by
  rcases exec_selected_next a t ht with
    ⟨-, -, rfl⟩ | ⟨-, -, rfl⟩ | ⟨-, -, hs, hsample⟩ | ⟨-, -, hs, hstart⟩
  · exact resetRegisters_sound a
  · exact h
  · exact execSample_sound h hs hsample
  · exact execDecodeStart_sound h hs hstart

/-! The obligations. -/

/-- Settles O43, by what a step can do: a drain cycle, nothing, or a transaction. -/
theorem stepKeepsSound : Obligations.StepKeepsSound := by
  intro s t h ht
  rcases step_next s t ht with ⟨-, rfl⟩ | ⟨-, -, rfl⟩ | ⟨q, rest, -, -, hexec⟩
  · exact drainCycle_sound h
  · exact h
  · exact exec_selected_sound (accept_sound h q rest) hexec

/-- Settles O44: the registers at power-on are those RESET leaves. -/
theorem resetIsSound : Obligations.ResetIsSound :=
  show (resetRegisters State.reset).Sound from resetRegisters_sound _

end Sys2Proof.Machine
end

section
/-! SUPPORT. What the rows do not read: with other levels on the input ports, and another radix latched, each shared operation does the same. -/

namespace Sys2Proof.Machine

/-- The state with its input ports and its latched radix rewritten: the two parts that no operation row's rule reads or writes. -/
def State.recast (f : Request → Request) (g : BitVec 2 → BitVec 2) (s : State) : State :=
  { s with port := f s.port, cRadix := g s.cRadix }

/-! The shared operations. -/

section
variable (f : Request → Request) (g : BitVec 2 → BitVec 2) (s : State)

@[simp] theorem recast_bitCount : (s.recast f g).bitCount = s.bitCount := rfl
@[simp] theorem recast_variant : (s.recast f g).variant = s.variant := rfl
@[simp] theorem recast_sn : (s.recast f g).sn = s.sn := rfl
@[simp] theorem recast_elapsed : (s.recast f g).elapsed = s.elapsed := rfl
@[simp] theorem recast_bitCountLegal : (s.recast f g).bitCountLegal = s.bitCountLegal := rfl

theorem append_recast (d : Level) (n : Nat) : append d n (s.recast f g) = (append d n s).recast f g := rfl
theorem fold_recast (d : Level) : fold d (s.recast f g) = (fold d s).recast f g := rfl
theorem countBit_recast : countBit (s.recast f g) = (countBit s).recast f g := rfl
theorem nextSample_recast : nextSample (s.recast f g) = (nextSample s).recast f g := rfl

theorem closePrev_recast (n : Nat) : closePrev n (s.recast f g) = (closePrev n s).recast f g := by
  unfold closePrev
  rw [recast_bitCount]
  split <;> rfl

theorem flush_recast : flush (s.recast f g) = (flush s).recast f g := by
  by_cases hzero : s.bitCount = 0
  · rw [flush_of_zero s hzero, flush_of_zero (s.recast f g) hzero]
  · rw [flush_of_pos s hzero, flush_of_pos (s.recast f g) hzero, recast_sn, closePrev_recast]
    rfl

theorem timingReport_recast : timingReport (s.recast f g) = (timingReport s).recast f g := by
  unfold timingReport
  rw [recast_elapsed]
  split <;> rfl

theorem finishStop_recast : finishStop (s.recast f g) = (finishStop s).recast f g := by
  unfold finishStop
  rw [timingReport_recast]
  rfl

theorem closeAndReport_recast : closeAndReport (s.recast f g) = (closeAndReport s).recast f g := by
  unfold closeAndReport
  rw [recast_bitCount, recast_sn, closePrev_recast]
  split
  · dsimp only
    split <;> rfl
  · rfl

theorem foldOrComplete_recast (d : Level) : foldOrComplete d (s.recast f g) = (foldOrComplete d s).recast f g := by
  unfold foldOrComplete
  rw [recast_bitCount]
  split <;> rfl

theorem flushIfFull_recast : flushIfFull (s.recast f g) = (flushIfFull s).recast f g := by
  unfold flushIfFull
  rw [recast_bitCount, flush_recast]
  split <;> rfl

/-! The rows. -/

theorem stopHandler_recast : stopHandler (s.recast f g) = mapNext (·.recast f g) (stopHandler s) := by
  unfold stopHandler
  rw [recast_variant, recast_bitCountLegal, flush_recast, finishStop_recast, finishStop_recast]
  split
  · rfl
  · split <;> rfl

theorem execBit2w_recast (d : Level) : execBit2w d (s.recast f g) = mapNext (·.recast f g) (execBit2w d s) := by
  unfold execBit2w
  rw [countBit_recast, closeAndReport_recast, recast_sn, append_recast, foldOrComplete_recast, recast_bitCount]
  split <;> rfl

theorem execBit3w_recast (d : Level) : execBit3w d (s.recast f g) = mapNext (·.recast f g) (execBit3w d s) := by
  unfold execBit3w
  rw [countBit_recast, flushIfFull_recast, recast_sn, closePrev_recast, append_recast, fold_recast, recast_bitCountLegal]
  split <;> rfl

/-- The rule of a row does the same on other ports and another radix, and leaves them alone: the data level it takes is one of its
vector's bits, not read from the port again. -/
theorem performRow_recast (i : Instr) : performRow i (s.recast f g) = mapNext (·.recast f g) (performRow i s) := by
  cases i with
  | nopStart | nopData | nopAck | nopStop => rfl
  | start3wCh | start3wCl | start2w => rfl
  | ack | nack => rfl
  | stopStb | stopDat | stopStbFs | stopDatFs => exact stopHandler_recast f g s
  | bit2w => exact execBit2w_recast f g s _
  | bit3w => exact execBit3w_recast f g s _
  | reset | reservedOp | sampleHalted | decodeStart | sample => rfl

variable (hcur : (s.recast f g).cur = s.cur)
include hcur

/-- Evaluating a sample reads no more of the ports than the current levels (R82, R100). -/
theorem eval_recast : eval (s.recast f g) = mapNext (·.recast f g) (eval s) := by
  have hbefore : (s.recast f g).before = s.before := by simp only [State.before, hcur]; rfl
  have hvector : (s.recast f g).decodeVector = s.decodeVector := by simp only [State.decodeVector, hcur, hbefore]; rfl
  unfold eval
  rw [hvector, hcur, performRow_recast]
  cases performRow (Sys2Proof.decodeVector s.decodeVector) s <;> rfl

theorem execSample_recast : execSample (s.recast f g) = mapNext (·.recast f g) (execSample s) := by
  unfold execSample
  rw [nextSample_recast, eval_recast f g (nextSample s) hcur]
  by_cases hlast : s.sn < s.lastSample
  · rw [if_pos hlast]
    exact if_pos hlast
  · rw [if_neg hlast]
    exact if_neg hlast

end

/-! The control rows. -/

/-- A transaction of a started core does the same on ports that carry the same operation and the same levels: the configuration
inputs are read by decode start alone (R34, R223). -/
theorem exec_selected_recast (f : Request → Request) (s : State) (hs : s.started = true)
    (hop : (f s.port).op = s.port.op) (hcur : (s.recast f id).cur = s.cur) :
    exec (s.recast f id).selected (s.recast f id) = mapNext (·.recast f id) (exec s.selected s) := by
  have hselected : (s.recast f id).selected = s.selected := by
    rw [selected_eq, selected_eq, show (s.recast f id).port.op = s.port.op from hop]
    rfl
  rw [hselected, selected_eq, hs]
  split
  · rfl
  · split
    · rfl
    · split
      · rfl
      · exact execSample_recast f id s hcur

/-- The two rows that write the radix, by their names in spec/opcode_table.json. -/
theorem reset_or_decodeStart_of_mnemonic (i : Instr) (h : i.mnemonic = "RESET" ∨ i.mnemonic = "DECODE_START") :
    (∃ halted started, i = .reset halted started) ∨ i = .decodeStart := by
  cases i with
  | reset halted started => exact .inl ⟨halted, started, rfl⟩
  | decodeStart => exact .inr rfl
  | _ => simp [Instr.mnemonic] at h

/-- Every row but RESET and DECODE_START does the same with another radix and keeps it: those two alone write it (R35). -/
theorem exec_radix (i : Instr) (hreset : i.mnemonic ≠ "RESET") (hstart : i.mnemonic ≠ "DECODE_START")
    (g : BitVec 2 → BitVec 2) (s : State) : exec i (s.recast id g) = mapNext (·.recast id g) (exec i s) := by
  by_cases hrow : i.isOperation = true
  · rw [← performRow_eq_exec i _ hrow, ← performRow_eq_exec i _ hrow]
    exact performRow_recast id g s i
  · cases i with
    | reset => exact absurd rfl hreset
    | decodeStart => exact absurd rfl hstart
    | reservedOp | sampleHalted => rfl
    | sample => exact execSample_recast id g s rfl
    | _ => exact absurd rfl hrow

/-- RESET and DECODE_START write over the radix before anything else (R35, R201, R220). -/
theorem exec_overwrites_radix (i : Instr) (h : i.mnemonic = "RESET" ∨ i.mnemonic = "DECODE_START") (x : BitVec 2)
    (s : State) : exec i { s with cRadix := x } = exec i s := by
  rcases reset_or_decodeStart_of_mnemonic i h with ⟨halted, started, rfl⟩ | rfl
  · rfl
  · exact congrArg checkAndRun (show latchConfig { s with cRadix := x } = latchConfig s from rfl)

theorem drainCycle_recast (f : Request → Request) (g : BitVec 2 → BitVec 2) (s : State) :
    drainCycle (s.recast f g) = (drainCycle s).recast f g := by
  rw [drainCycle_eq, drainCycle_eq]
  rfl

/-! The obligations. -/

/-- Settles O51: the two transactions are transferred into states that differ in the ports alone. -/
theorem configInputsIgnoredAfterStart : Obligations.ConfigInputsIgnoredAfterStart := by
  intro s q p rest hs hw hq hop hclk hdat hstb
  have hcur : ((accept q rest s).recast (fun _ => p) id).cur = (accept q rest s).cur := by
    show Levels.mk (s.cStb && p.stb) p.dat p.clk = Levels.mk (s.cStb && q.stb) q.dat q.clk
    rw [hclk, hdat, hstb]
  rw [step_of_transfer s q rest hw hq, step_of_transfer { s with inq := p :: rest } p rest hw rfl]
  exact exec_selected_recast (fun _ => p) (accept q rest s) hs hop hcur

/-- Settles O53: for the instructions by the rows that write the radix and those that do not, for the rest by the two steps that
perform no transaction. -/
theorem radixNeverRead : Obligations.RadixNeverRead := by
  intro s x
  refine ⟨fun i hreset hstart => exec_radix i hreset hstart (fun _ => x) s,
    fun i h => exec_overwrites_radix i h x s, fun hnone => ?_⟩
  by_cases hw : s.waiting = []
  · have hq : s.inq = [] := hnone.resolve_left (absurd hw)
    rw [step_of_idle s hw hq, step_of_idle { s with cRadix := x } hw hq]
    rfl
  · rw [step_of_waiting s hw, step_of_waiting { s with cRadix := x } hw]
    exact congrArg Host.Outcome.next (drainCycle_recast id (fun _ => x) s)

end Sys2Proof.Machine
end

section
/-! SUPPORT. The frame of an operation row, in the two halves that a SAMPLE needs: with at most eight bits held the row completes, and what it then leaves alone while it appends its records. -/

namespace Sys2Proof.Machine

/-! Completion. -/

section
variable (s : State) (hcount : s.bitCount.toNat ≤ 8)
include hcount

/-- With at most eight bits held a stop is never refused (R108, R36 item 3). -/
theorem stopHandler_completes : ∃ t, stopHandler s = .next t := by
  have hlegal : s.bitCountLegal = true := by simpa [State.bitCountLegal] using hcount
  unfold stopHandler
  split
  · exact ⟨_, rfl⟩
  · exact ⟨_, if_pos hlegal⟩

/-- Nor is a clock edge, in either variant (R143, R145). -/
theorem execBit2w_completes (d : Level) : ∃ t, execBit2w d s = .next t :=
  ⟨_, if_pos (Nat.le_succ_of_le hcount)⟩

theorem execBit3w_completes (d : Level) : ∃ t, execBit3w d s = .next t :=
  ⟨_, if_pos (by simpa [State.bitCountLegal] using hcount)⟩

/-- So every operation row completes. -/
theorem performRow_completes (i : Instr) (hi : i.isOperation = true) : ∃ t, performRow i s = .next t := by
  cases i with
  | nopStart | nopData | nopAck | nopStop => exact ⟨_, rfl⟩
  | start3wCh | start3wCl | start2w => exact ⟨_, rfl⟩
  | ack | nack => exact ⟨_, rfl⟩
  | stopStb | stopDat | stopStbFs | stopDatFs => exact stopHandler_completes s hcount
  | bit2w => exact execBit2w_completes s hcount _
  | bit3w => exact execBit3w_completes s hcount _
  | reset | reservedOp | sampleHalted | decodeStart | sample => cases hi

/-- A SAMPLE below the last index completes: its vector selects an operation row, and the row completes (R100). -/
theorem execSample_completes (hlast : s.sn < s.lastSample) : ∃ t, execSample s = .next t := by
  obtain ⟨u, hu⟩ := performRow_completes (nextSample s) hcount _ (decodeVector_isOperation (nextSample s).decodeVector)
  refine ⟨latchPrev (nextSample s).cur u, ?_⟩
  rw [execSample, if_pos hlast, eval, hu, mapNext_of_next]

end

/-! What a row leaves alone. -/

/-- What the rule of a row leaves alone besides `State.fixedPart`: the sample index, the status, the latched configuration and the
input ports. -/
def State.statusPart (s : State) :
    Nat × Bool × BitVec 2 × Bool × Bool × Bool × Nat × BitVec 2 × Request :=
  (s.sn, s.started, s.statusErr, s.cClk, s.cDat, s.cStb, s.cRate, s.cRadix, s.port)

/-- From `s` to `t` the status part stays, and records are only appended (R64, R93). -/
structure State.OnlyEmits (s t : State) : Prop where
  status : t.statusPart = s.statusPart
  records : s.waiting <+: t.waiting

theorem State.OnlyEmits.refl (s : State) : s.OnlyEmits s := ⟨rfl, List.prefix_rfl⟩

theorem State.OnlyEmits.trans {s t u : State} (hst : s.OnlyEmits t) (htu : t.OnlyEmits u) : s.OnlyEmits u :=
  ⟨htu.status.trans hst.status, hst.records.trans htu.records⟩

section
variable (s : State)

theorem emitAll_onlyEmits (rs : List Record) : s.OnlyEmits (emitAll rs s) := ⟨rfl, List.prefix_append ..⟩
theorem countBit_onlyEmits : s.OnlyEmits (countBit s) := ⟨rfl, List.prefix_rfl⟩
theorem append_onlyEmits (d : Level) (n : Nat) : s.OnlyEmits (append d n s) := ⟨rfl, List.prefix_rfl⟩
theorem fold_onlyEmits (d : Level) : s.OnlyEmits (fold d s) := ⟨rfl, List.prefix_rfl⟩
theorem byteComplete2w_onlyEmits : s.OnlyEmits (byteComplete2w s) := ⟨rfl, List.prefix_append ..⟩
theorem answer_onlyEmits (k : Kind) : s.OnlyEmits (answer k s) := ⟨rfl, List.prefix_append ..⟩

theorem startHandler_onlyEmits (v : Variant) : s.OnlyEmits (startHandler { s with variant := v }) :=
  ⟨rfl, List.prefix_append ..⟩

theorem closePrev_onlyEmits (n : Nat) : s.OnlyEmits (closePrev n s) := by
  rw [closePrev_frame]
  exact ⟨rfl, List.prefix_rfl⟩

theorem flush_onlyEmits : s.OnlyEmits (flush s) := by
  by_cases hzero : s.bitCount = 0
  · rw [flush_of_zero s hzero]
    exact .refl s
  · rw [flush_of_pos s hzero]
    exact ⟨rfl, by simp⟩

theorem finishStop_onlyEmits : s.OnlyEmits (finishStop s) := by
  obtain ⟨rs, -, hrate⟩ := timingReport_frame s
  rw [finishStop_eq, hrate]
  exact ⟨rfl, by simp⟩

theorem closeAndReport_onlyEmits : s.OnlyEmits (closeAndReport s) := by
  obtain ⟨rs, hrs⟩ := closeAndReport_eq_emitAll s
  rw [hrs]
  exact (closePrev_onlyEmits s s.sn).trans (emitAll_onlyEmits _ rs)

theorem foldOrComplete_onlyEmits (d : Level) : s.OnlyEmits (foldOrComplete d s) := by
  unfold foldOrComplete
  split
  · exact fold_onlyEmits s d
  · exact byteComplete2w_onlyEmits s

theorem flushIfFull_onlyEmits : s.OnlyEmits (flushIfFull s) := by
  unfold flushIfFull
  split
  · exact flush_onlyEmits s
  · exact .refl s

end

section
variable {s t : State}

theorem stopHandler_onlyEmits (h : stopHandler s = .next t) : s.OnlyEmits t := by
  rcases stopHandler_next s t h with ⟨-, rfl⟩ | ⟨-, -, rfl⟩
  · exact finishStop_onlyEmits s
  · exact (flush_onlyEmits s).trans (finishStop_onlyEmits _)

theorem execBit2w_onlyEmits {d : Level} (h : execBit2w d s = .next t) : s.OnlyEmits t := by
  obtain ⟨-, rfl⟩ := execBit2w_next d s t h
  exact (countBit_onlyEmits s).trans <| (closeAndReport_onlyEmits _).trans <|
    (append_onlyEmits _ d _).trans (foldOrComplete_onlyEmits _ d)

theorem execBit3w_onlyEmits {d : Level} (h : execBit3w d s = .next t) : s.OnlyEmits t := by
  rw [execBit3w_next_eq_takeBit d s t h]
  exact (flushIfFull_onlyEmits s).trans <| (countBit_onlyEmits _).trans <|
    (closePrev_onlyEmits _ _).trans <| (append_onlyEmits _ d _).trans (fold_onlyEmits _ d)

/-- The rule of a row leaves the status part alone and appends its records. -/
theorem performRow_onlyEmits {i : Instr} (h : performRow i s = .next t) : s.OnlyEmits t := by
  rcases performRow_next i s t h with rfl | ⟨v, rfl⟩ | ⟨k, rfl⟩ | hstop | ⟨d, hbit⟩ | ⟨d, hbit⟩
  · exact .refl t
  · exact startHandler_onlyEmits s v
  · exact answer_onlyEmits s k
  · exact stopHandler_onlyEmits hstop
  · exact execBit2w_onlyEmits hbit
  · exact execBit3w_onlyEmits hbit

end

/-! The obligations. -/

/-- Settles O10: the SAMPLE completes, its row moves neither the fixed nor the status part, and around the row the index and `prev`
move on. -/
theorem sampleCompletes : Obligations.SampleCompletes := by
  intro s hlast hcount
  obtain ⟨t, ht⟩ := execSample_completes s hcount hlast
  obtain ⟨-, heval⟩ := execSample_next s t ht
  have hfixed : t.fixedPart = s.fixedPart := eval_keeps_fixedPart (nextSample s) t heval
  obtain ⟨u, hu, rfl⟩ := eval_next _ t heval
  obtain ⟨hstatus, hrecords⟩ := performRow_onlyEmits hu
  simp only [State.fixedPart, State.statusPart, Prod.mk.injEq] at hfixed hstatus
  obtain ⟨hpar, hinq, hready, hsent⟩ := hfixed
  obtain ⟨hsn, hstarted, herr, hclk, hdat, hstb, hrate, hradix, hport⟩ := hstatus
  exact ⟨_, ht, hsn, rfl, hpar, hstarted, herr, hclk, hdat, hstb, hrate, hradix, hport, hinq, hready, hsent, hrecords⟩

/-- Settles O15: while a record waits a step is a drain cycle, which keeps the observation as it is; with none waiting the records
taken are the whole observation, and a step leaves them (O17). -/
theorem observationOnlyGrows : Obligations.ObservationOnlyGrows := by
  intro s t h
  by_cases hw : s.waiting = []
  · obtain ⟨-, hedge⟩ := stepKeepsParametersAndEdge s t h
    obtain ⟨-, hsent, -⟩ := hedge hw
    rw [State.observed, State.observed, hw, hsent, List.append_nil]
    exact List.prefix_append ..
  · obtain rfl : drainCycle s = t := Host.Outcome.next.inj ((step_of_waiting s hw).symm.trans h)
    rw [drainCycle_observed]

end Sys2Proof.Machine
end

section
/-! SUPPORT. The two vectors as their fields, and the tables read both ways: the word of a well-formed instruction selects that instruction, and the row a vector selects is well formed and encodes back to the vector. -/

namespace Sys2Proof

/-! The fields of a vector. -/

/-- A decode vector from its state code and its fields, most significant first (R82). -/
def fieldVector (code : BitVec 2) (V P ps pd pc s d c : Bool) : DecodeVector :=
  code ++ BitVec.ofBool V ++ BitVec.ofBool P ++ BitVec.ofBool ps ++ BitVec.ofBool pd ++ BitVec.ofBool pc ++
    BitVec.ofBool s ++ BitVec.ofBool d ++ BitVec.ofBool c

/-- Its number is the one the encoder writes: each bit appended shifts the fields before it up by one place. -/
theorem toNat_fieldVector (code : BitVec 2) (V P ps pd pc s d c : Bool) :
    (fieldVector code V P ps pd pc s d c).toNat = vectorBits code.toNat V P ps pd pc s d c := by
  simp only [fieldVector, vectorBits, fieldBits, placed, BitVec.toNat_append, BitVec.toNat_ofBool,
    Nat.shiftLeft_or_distrib, ← Nat.shiftLeft_add, Nat.or_assoc, Nat.shiftLeft_zero]

theorem ofNat_vectorBits (code : BitVec 2) (V P ps pd pc s d c : Bool) :
    BitVec.ofNat 10 (vectorBits code.toNat V P ps pd pc s d c) = fieldVector code V P ps pd pc s d c := by
  rw [← toNat_fieldVector, BitVec.ofNat_toNat, BitVec.setWidth_eq]

/-- The fields of a decode vector are its bits (R82). -/
theorem fieldVector_of_bits (v : DecodeVector) :
    fieldVector (v.extractLsb' 8 2) (bitOf v 7) (bitOf v 6) (bitOf v 5) (bitOf v 4) (bitOf v 3) (bitOf v 2) (bitOf v 1)
      (bitOf v 0) = v := by
  refine BitVec.eq_of_getLsbD_eq fun i hi => ?_
  simp only [fieldVector, bitOf, BitVec.getLsbD_append, BitVec.getLsbD_ofBool, BitVec.getLsbD_extractLsb']
  interval_cases i <;> rfl

/-- Under a state code the number of a decode vector has ten bits. -/
theorem vectorBits_lt {k : Nat} (hk : k < 4) (V P ps pd pc s d c : Bool) : vectorBits k V P ps pd pc s d c < 2 ^ 10 := by
  have hcode : (BitVec.ofNat 2 k).toNat = k := Nat.mod_eq_of_lt hk
  rw [← hcode, ← toNat_fieldVector]
  exact BitVec.isLt _

/-- The codes of the four FSM states are all the codes there are (R20). -/
theorem code_cases (code : BitVec 2) : code = 0 ∨ code = 1 ∨ code = 2 ∨ code = 3 := by
  revert code
  decide

/-- A control vector is `in_op`, then `halted` and `started` (R89). -/
theorem ofNat_controlBits (op : BitVec 2) (halted started : Bool) :
    BitVec.ofNat 4 (controlBits (op.getLsbD 1) (op.getLsbD 0) halted started) =
      op ++ BitVec.ofBool halted ++ BitVec.ofBool started := by
  revert op halted started
  decide

theorem controlBits_lt (op1 op0 halted started : Bool) : controlBits op1 op0 halted started < 2 ^ 4 := by
  revert op1 op0 halted started
  decide

/-- The fields of a control vector are its bits (R89). -/
theorem controlBits_of_bits (v : ControlVector) : controlBits (bitOf v 3) (bitOf v 2) (bitOf v 1) (bitOf v 0) = v.toNat := by
  revert v
  decide

/-! Decode of encode. -/

/-- The word of an operation row is a decode vector. -/
theorem encode_lt_of_isOperation (i : Instr) (h : i.isOperation = true) : encode i < 2 ^ 10 := by
  cases i with
  | reset | reservedOp | sampleHalted | decodeStart | sample => cases h
  | _ => exact vectorBits_lt (by decide) ..

/-- The word of a control row is a control vector. -/
theorem encode_lt_of_not_isOperation (i : Instr) (h : i.isOperation = false) : encode i < 2 ^ 4 := by
  cases i with
  | reset | reservedOp | sampleHalted | decodeStart | sample => exact controlBits_lt ..
  | _ => cases h

/-- A well-formed operation row is the first of its group to take its own vector (R86, R87). -/
theorem decodeVector_encode (i : Instr) (h : i.isOperation = true) (hwf : i.wellFormed = true) :
    decodeVector (BitVec.ofNat 10 (encode i)) = i := by
  cases i with
  | start3wCh | start3wCl | start2w | nopStart =>
    rw [encode, decodeVector_findStart]
    grind [Instr.wellFormed]
  | stopStb | stopDat | bit2w | bit3w | nopData =>
    rw [encode, decodeVector_findData]
    grind [Instr.wellFormed]
  | ack | nack | nopAck =>
    rw [encode, decodeVector_findAck]
    grind [Instr.wellFormed]
  | stopStbFs | stopDatFs | nopStop =>
    rw [encode, decodeVector_findStop]
    grind [Instr.wellFormed]
  | reset | reservedOp | sampleHalted | decodeStart | sample => cases h

/-- A control row takes its own vector: its fixed bits rule out the rows before it (R89). -/
theorem decodeControl_encode (i : Instr) (h : i.isOperation = false) : decodeControl (BitVec.ofNat 4 (encode i)) = i := by
  cases i with
  | reset | reservedOp | sampleHalted | decodeStart | sample => exact decodeControl_controlBits ..
  | _ => cases h

/-- A control vector is stored in one byte, a decode vector in two. -/
theorem decodeWord_control {w : Nat} (h : w < 2 ^ 4) : decodeWord 8 w = .ok (decodeControl (BitVec.ofNat 4 w)) := if_pos h

theorem decodeWord_vector {w : Nat} (h : w < 2 ^ 10) : decodeWord 16 w = .ok (decodeVector (BitVec.ofNat 10 w)) := if_pos h

/-- Settles O1: an operation row's word is two bytes and a control row's one, and each vector selects its row. -/
theorem decodeOfEncode : Obligations.DecodeOfEncode := by
  intro i hwf
  unfold Instr.nbits
  cases hrow : i.isOperation with
  | true => exact (decodeWord_vector (encode_lt_of_isOperation i hrow)).trans (by rw [decodeVector_encode i hrow hwf])
  | false => exact (decodeWord_control (encode_lt_of_not_isOperation i hrow)).trans (by rw [decodeControl_encode i hrow])

/-! Encode of decode. -/

/-- An instruction that is well formed and has the word `w`. -/
def Instr.Spells (i : Instr) (w : Nat) : Prop := i.wellFormed = true ∧ encode i = w

/-- The row that the fields of a group select spells their vector: the bits it fixes are those its pattern asks for, and no earlier
pattern of the group was met (R86, R87). -/
theorem decodeVector_vectorBits_spells (code : BitVec 2) (V P ps pd pc s d c : Bool) :
    (decodeVector (BitVec.ofNat 10 (vectorBits code.toNat V P ps pd pc s d c))).Spells
      (vectorBits code.toNat V P ps pd pc s d c) := by
  rcases code_cases code with rfl | rfl | rfl | rfl
  · rw [show BitVec.toNat 0 = 0 from rfl, decodeVector_findStart]
    grind [Instr.wellFormed, encode, Instr.Spells]
  · rw [show BitVec.toNat 1 = 1 from rfl, decodeVector_findData]
    grind [Instr.wellFormed, encode, Instr.Spells]
  · rw [show BitVec.toNat 2 = 2 from rfl, decodeVector_findAck]
    grind [Instr.wellFormed, encode, Instr.Spells]
  · rw [show BitVec.toNat 3 = 3 from rfl, decodeVector_findStop]
    grind [Instr.wellFormed, encode, Instr.Spells]

theorem decodeVector_spells (v : DecodeVector) : (decodeVector v).Spells v.toNat := by
  simpa only [← toNat_fieldVector, fieldVector_of_bits, BitVec.ofNat_toNat, BitVec.setWidth_eq] using
    decodeVector_vectorBits_spells (v.extractLsb' 8 2) (bitOf v 7) (bitOf v 6) (bitOf v 5) (bitOf v 4) (bitOf v 3)
      (bitOf v 2) (bitOf v 1) (bitOf v 0)

/-- So does the control row that the fields of a control vector select (R89). -/
theorem decodeControl_controlBits_spells (op1 op0 halted started : Bool) :
    (decodeControl (BitVec.ofNat 4 (controlBits op1 op0 halted started))).Spells (controlBits op1 op0 halted started) := by
  rw [decodeControl_controlBits]
  grind [Instr.wellFormed, encode, Instr.Spells]

theorem decodeControl_spells (v : ControlVector) : (decodeControl v).Spells v.toNat := by
  simpa only [controlBits_of_bits, BitVec.ofNat_toNat, BitVec.setWidth_eq] using
    decodeControl_controlBits_spells (bitOf v 3) (bitOf v 2) (bitOf v 1) (bitOf v 0)

/-- One byte decodes to a control row, and only where its four high bits are 0. -/
theorem decodeWord_byte_ok {w : Nat} {i : Instr} (h : decodeWord 8 w = .ok i) :
    w < 2 ^ 4 ∧ i = decodeControl (BitVec.ofNat 4 w) := by
  by_cases hw : w < 2 ^ 4
  · exact ⟨hw, (Except.ok.inj ((decodeWord_control hw).symm.trans h)).symm⟩
  · cases (show decodeWord 8 w = .error .aboveControlVector from if_neg hw).symm.trans h

/-- Two bytes decode to an operation row, and only where the six high bits are 0. -/
theorem decodeWord_twoBytes_ok {w : Nat} {i : Instr} (h : decodeWord 16 w = .ok i) :
    w < 2 ^ 10 ∧ i = decodeVector (BitVec.ofNat 10 w) := by
  by_cases hw : w < 2 ^ 10
  · exact ⟨hw, (Except.ok.inj ((decodeWord_vector hw).symm.trans h)).symm⟩
  · cases (show decodeWord 16 w = .error .aboveDecodeVector from if_neg hw).symm.trans h

/-- Settles O2: the word is its vector's number, and the row the vector selects spells it. -/
theorem encodeOfDecode : Obligations.EncodeOfDecode := by
  intro nbits w i hbits hdecode
  rcases hbits with rfl | rfl
  · obtain ⟨hw, rfl⟩ := decodeWord_byte_ok hdecode
    obtain ⟨hwf, hword⟩ := decodeControl_spells (BitVec.ofNat 4 w)
    exact ⟨hwf, hword.trans (Nat.mod_eq_of_lt hw), by rw [Instr.nbits, decodeControl_not_isOperation]; rfl⟩
  · obtain ⟨hw, rfl⟩ := decodeWord_twoBytes_ok hdecode
    obtain ⟨hwf, hword⟩ := decodeVector_spells (BitVec.ofNat 10 w)
    exact ⟨hwf, hword.trans (Nat.mod_eq_of_lt hw), by rw [Instr.nbits, decodeVector_isOperation]; rfl⟩

/-- Settles O7: the vectors are written out, so the tables are searched as they stand. -/
theorem writtenVectorsDecode : Obligations.WrittenVectorsDecode :=
  ⟨rfl, rfl, rfl, rfl, rfl, rfl, rfl, rfl, rfl, rfl⟩

end Sys2Proof
end

section
/-! SUPPORT. The search of the two tables: a vector selects the first row that matches, and in a state the first pattern that the edges and levels satisfy. -/

namespace Sys2Proof

/-- A search answers with the first row that matches, provided that the row after the table takes what no row of the table does. -/
theorem firstRow_is_first {n : Nat} (rows : List (TableRow n)) (last : TableRow n) (v : BitVec n)
    (hlast : (∀ q ∈ rows, v &&& q.mask ≠ q.pattern) → v &&& last.mask = last.pattern) :
    ∃ before r after, rows ++ [last] = before ++ r :: after ∧ v &&& r.mask = r.pattern ∧
      (∀ q ∈ before, v &&& q.mask ≠ q.pattern) ∧ firstRow rows last v = r.build v := by
  have hhits : ∀ q : TableRow n, q.hits v = true ↔ v &&& q.mask = q.pattern := fun q => beq_iff_eq
  unfold firstRow
  cases hfind : rows.find? (·.hits v) with
  | none =>
    have hnone : ∀ q ∈ rows, v &&& q.mask ≠ q.pattern := fun q hq hv =>
      List.find?_eq_none.mp hfind q hq ((hhits q).mpr hv)
    exact ⟨rows, last, [], rfl, hlast hnone, hnone, rfl⟩
  | some r =>
    obtain ⟨hr, before, after, rfl, hbefore⟩ := List.find?_eq_some_iff_append.mp hfind
    exact ⟨before, r, after ++ [last], by simp, (hhits r).mp hr, fun q hq hv => by
      simpa [(hhits q).mpr hv] using hbefore q hq, rfl⟩

/-- The state bits of a vector pick one of the four NOP rows, which ask for nothing else (R88). -/
theorem nopRow_hits (v : DecodeVector) :
    v &&& 0x300#10 = 0x000#10 ∨ v &&& 0x300#10 = 0x100#10 ∨ v &&& 0x300#10 = 0x200#10 ∨ v &&& 0x300#10 = 0x300#10 := by
  have hcode : v &&& 0x300#10 = v.extractLsb' 8 2 ++ 0#8 := by
    refine BitVec.eq_of_getLsbD_eq fun i hi => ?_
    simp only [BitVec.getLsbD_append, BitVec.getLsbD_and, BitVec.getLsbD_extractLsb']
    interval_cases i <;> simp
  rw [hcode]
  rcases code_cases (v.extractLsb' 8 2) with h | h | h | h <;> simp [h]

/-- Settles O3: what no row of the table takes has the state bits of FIND_STOP, so the last row takes it. -/
theorem firstMatchingRowSelected : Obligations.FirstMatchingRowSelected := by
  refine ⟨rfl, fun v => firstRow_is_first operationTable lastOperationRow v fun hnone => ?_⟩
  simp only [operationTable, List.mem_cons, List.not_mem_nil, or_false, forall_eq_or_imp, forall_eq] at hnone
  obtain ⟨-, -, -, hstart, -, -, -, -, hdata, -, -, hack, -⟩ := hnone
  exact (((nopRow_hits v).resolve_left hstart).resolve_left hdata).resolve_left hack

/-- What no row of the control table takes is SAMPLE's vector. -/
theorem lastControlRow_hits (v : ControlVector) (h : ∀ q ∈ controlTable, v &&& q.mask ≠ q.pattern) :
    v &&& lastControlRow.mask = lastControlRow.pattern := by
  revert v
  decide

end Sys2Proof

namespace Sys2Proof.Machine

/-- The decode vector of a state is its code, its variant, the strobe's presence, the levels before and the levels now (R82). -/
theorem decodeVector_eq_fieldVector (s : State) :
    s.decodeVector = fieldVector s.state.code s.variant.bit s.cStb s.before.stb s.before.dat s.before.clk s.cur.stb s.cur.dat
      s.cur.clk :=
  ofNat_vectorBits ..

/-- Settles O4: with a previous sample the levels before are that sample. -/
theorem decodeVectorLayout : Obligations.DecodeVectorLayout := by
  intro s p hp
  have hbefore : s.before = p := by rw [State.before, hp, Option.getD_some]
  rw [decodeVector_eq_fieldVector, hbefore]
  rfl

/-- The terms of the table are the edges of R83. -/
theorem strobeFalls_eq (s : State) : strobeFalls s.cStb s.before.stb s.cur.stb = s.strobeFalling := rfl

theorem strobeRises_eq (s : State) : strobeRises s.cStb s.before.stb s.cur.stb = s.strobeRising := rfl

theorem dataFallsHigh_eq (s : State) : dataFallsHigh s.before.dat s.cur.dat s.cur.clk = (s.cur.clk && s.dataFalling) :=
  Bool.and_comm ..

theorem dataRisesHigh_eq (s : State) : dataRisesHigh s.before.dat s.cur.dat s.cur.clk = (s.cur.clk && s.dataRising) :=
  Bool.and_comm ..

theorem clockRises_eq (s : State) : clockRises s.before.clk s.cur.clk = s.clockRising := rfl

theorem clockFalls_eq (s : State) : clockFalls s.before.clk s.cur.clk = s.clockFalling := rfl

/-- Settles O5, state by state: the group's terms are the patterns of R85, in the same order. -/
theorem tableSelectsFirstPattern : Obligations.TableSelectsFirstPattern := by
  intro s
  cases hs : s.state with
  | findStart =>
    rw [decodeVector_of_findStart s hs, State.patternRow, hs, strobeFalls_eq, dataFallsHigh_eq]
    cases s.strobeFalling with
    | true => cases s.cur.clk <;> rfl
    | false => cases s.cur.clk <;> cases s.dataFalling <;> rfl
  | findData =>
    rw [decodeVector_of_findData s hs, State.patternRow, hs, strobeRises_eq, dataRisesHigh_eq, clockRises_eq]
    simp only [apply_ite Instr.mnemonic]
    cases s.variant <;> rfl
  | findAck =>
    rw [decodeVector_of_findAck s hs, State.patternRow, hs, clockFalls_eq]
    simp only [apply_ite Instr.mnemonic]
    rfl
  | findStop =>
    rw [decodeVector_of_findStop s hs, State.patternRow, hs, strobeRises_eq, dataRisesHigh_eq]
    simp only [apply_ite Instr.mnemonic]
    rfl

/-- Settles O6: the layout by the fields, the table by its rows, and the row of a transaction by the four values of `in_op`. -/
theorem controlRowSelected : Obligations.ControlRowSelected := by
  refine ⟨fun s => ofNat_controlBits .., rfl,
    fun v => firstRow_is_first controlTable lastControlRow v (lastControlRow_hits v), fun s => ?_⟩
  have hhalted : s.statusErr ≠ 0 ↔ s.halted = true := bne_iff_ne.symm
  rw [selected_eq]
  simp only [apply_ite Instr.mnemonic, hhalted]
  rcases code_cases s.port.op with hop | hop | hop | hop <;> rw [hop]
  · cases s.started <;> rfl
  · rfl
  · rfl
  · rfl

/-- Settles O20: both reserved codes have the high bit of `in_op`, which selects RESERVED_OP whatever the state. -/
theorem reservedOperationRefused : Obligations.ReservedOperationRefused := by
  refine ⟨fun _ _ _ _ => rfl, fun s q rest hw hq hop => ?_⟩
  have hhigh : q.op.getLsbD 1 = true := by rcases hop with h | h <;> rw [h] <;> rfl
  rw [step_of_transfer s q rest hw hq, selected_eq, accept_port, if_pos hhigh]
  rfl

end Sys2Proof.Machine
end

section
/-! SUPPORT. A whole SAMPLE as the row its vector selects, and what a sample with no pattern, a sample in FIND_DATA, and a sample without a strobe do. -/

namespace Sys2Proof.Machine

/-- A SAMPLE below the last index performs, at the next index, the row that the state before it selects (R100). -/
theorem execSample_of_lt (s : State) (h : s.sn < 2 ^ s.par.wSn - 1) :
    execSample s = mapNext (latchPrev s.cur) (performRow (Sys2Proof.decodeVector s.decodeVector) (nextSample s)) := if_pos h

/-- The rule of a NOP row does nothing (R88). -/
theorem performRow_of_nop (i : Instr) (h : i.mnemonic ∈ ["NOP_START", "NOP_DATA", "NOP_ACK", "NOP_STOP"]) (s : State) :
    performRow i s = .next s := by
  cases i with
  | nopStart | nopData | nopAck | nopStop => rfl
  | _ => simp [Instr.mnemonic] at h

/-- Settles O11: the row is the NOP that the patterns name, and around it only the index and `prev` move. -/
theorem unmatchedSampleChangesNothing : Obligations.UnmatchedSampleChangesNothing := by
  intro s _ hlast hnop
  have hrow := tableSelectsFirstPattern s
  refine ⟨hrow, (execSample_of_lt s hlast).trans ?_⟩
  rw [performRow_of_nop _ (hrow ▸ hnop)]
  rfl

/-- Settles O27: the row of the FIND_DATA group, whose rule reads none of the row's open bits but the data level. -/
theorem sampleInFindData : Obligations.SampleInFindData := by
  intro s _ hstate hlast
  refine (execSample_of_lt s hlast).trans (congrArg _ ?_)
  rw [decodeVector_of_findData s hstate, strobeRises_eq, dataRisesHigh_eq, clockRises_eq]
  rw [show ({ s with sn := s.sn + 1 } : State) = nextSample s from rfl]
  generalize nextSample s = u
  simp only [apply_ite (performRow · u)]
  cases s.variant <;> rfl

/-! The strobe absent. -/

/-- With the strobe absent there is no strobe edge, so a sample in FIND_START starts a 2-wire session or does nothing
(R84, R103). -/
theorem performRow_next_of_absent_strobe (s t : State) (hs : s.state = .findStart) (hstb : s.cStb = false)
    (h : performRow (Sys2Proof.decodeVector s.decodeVector) s = .next t) :
    t = s ∨ t = startHandler { s with variant := .twoWire } := by
  rw [decodeVector_of_findStart s hs, strobeFalls, hstb] at h
  split at h
  · contradiction
  · split at h
    · exact .inr (Host.Outcome.next.inj h).symm
    · exact .inl (Host.Outcome.next.inj h).symm

/-- In FIND_START still, or in a 2-wire session just started. -/
def State.IdleOrTwoWire (t : State) : Prop := t.state = .findStart ∨ (t.state = .findData ∧ t.variant = .twoWire)

theorem eval_idleOrTwoWire (s t : State) (hs : s.state = .findStart) (hstb : s.cStb = false) (h : eval s = .next t) :
    t.IdleOrTwoWire := by
  obtain ⟨u, hu, rfl⟩ := eval_next s t h
  rcases performRow_next_of_absent_strobe s u hs hstb hu with rfl | rfl
  · exact .inl hs
  · exact .inr ⟨rfl, rfl⟩

/-- A transaction in FIND_START, with the strobe latched absent or absent at its own decode start. -/
theorem exec_selected_idleOrTwoWire (a t : State) (hs : a.state = .findStart)
    (hstb : (a.started = true ∧ a.cStb = false) ∨ (a.started = false ∧ a.port.cfgStb = false))
    (h : exec a.selected a = .next t) : t.IdleOrTwoWire := by
  rcases exec_selected_next a t h with
    ⟨-, -, rfl⟩ | ⟨-, -, rfl⟩ | ⟨-, -, hstarted, hsample⟩ | ⟨-, -, hstarted, hstart⟩
  · exact .inl rfl
  · exact .inl hs
  · have hlatched : a.cStb = false := by simpa [hstarted] using hstb
    exact eval_idleOrTwoWire (nextSample a) t hs hlatched (execSample_next a t hsample).2
  · have hport : a.port.cfgStb = false := by simpa [hstarted] using hstb
    rcases execDecodeStart_next a t hstart with ⟨-, rfl⟩ | ⟨-, rfl⟩ | ⟨-, -, -, heval⟩
    · exact .inl hs
    · exact .inl hs
    · exact eval_idleOrTwoWire (firstSample (latchConfig a)) t hs hport heval

/-- Settles O49: a step that performs no transaction stays in FIND_START. -/
theorem absentStrobeStartsTwoWire : Obligations.AbsentStrobeStartsTwoWire := by
  intro s t hstb hs h
  rcases step_next s t h with ⟨-, rfl⟩ | ⟨-, -, rfl⟩ | ⟨q, rest, -, hq, hexec⟩
  · exact .inl (by rw [drainCycle_eq]; exact hs)
  · exact .inl hs
  · exact exec_selected_idleOrTwoWire (accept q rest s) t hs (by simpa [hq] using hstb) hexec

/-- The state with another level on `in_stb`, as a recasting of its ports. -/
abbrev State.withStb (b : Level) (s : State) : State := s.recast (fun _ => { s.port with stb := b }) id

/-- With the strobe absent `cur` does not have the level on `in_stb` (R81). -/
theorem cur_withStb (b : Level) (s : State) (hstb : s.cStb = false) : (s.withStb b).cur = s.cur := by
  show Levels.mk (s.cStb && b) _ _ = Levels.mk (s.cStb && s.port.stb) _ _
  rw [hstb]
  rfl

/-- DECODE_START with the strobe absent: it latches the same configuration, and then neither `cur` nor `prev` has the level on
`in_stb` (R81, R201). -/
theorem execDecodeStart_withStb (b : Level) (s : State) (hstb : s.port.cfgStb = false) :
    execDecodeStart (s.withStb b) = mapNext (·.recast (fun _ => { s.port with stb := b }) id) (execDecodeStart s) := by
  have hcur : ((latchConfig s).withStb b).cur = (latchConfig s).cur := cur_withStb b _ hstb
  have hfirst : firstSample ((latchConfig s).withStb b) = (firstSample (latchConfig s)).withStb b := by
    unfold firstSample State.initialPrev
    rw [hcur]
    rfl
  show checkAndRun ((latchConfig s).withStb b) = mapNext _ (checkAndRun (latchConfig s))
  unfold checkAndRun
  rw [hfirst, State.withStb, eval_recast _ _ (firstSample (latchConfig s)) hcur]
  simp only [apply_ite (mapNext _)]
  rfl

/-- A transaction with the strobe absent does the same whatever the level on `in_stb`. -/
theorem exec_selected_withStb (b : Level) (a : State)
    (hstb : (a.started = true ∧ a.cStb = false) ∨ (a.started = false ∧ a.port.cfgStb = false)) :
    exec (a.withStb b).selected (a.withStb b) =
      mapNext (·.recast (fun _ => { a.port with stb := b }) id) (exec a.selected a) := by
  rcases hstb with ⟨hstarted, hlatched⟩ | ⟨hstarted, hport⟩
  · exact exec_selected_recast _ a hstarted rfl (cur_withStb b a hlatched)
  · rw [show (a.withStb b).selected = a.selected from rfl, selected_eq, hstarted]
    split
    · rfl
    · split
      · rfl
      · split
        · rfl
        · exact execDecodeStart_withStb b a hport

/-- Settles O52: the two transactions are transferred into states that differ in the level on `in_stb` alone. -/
theorem absentStrobeLevelIgnored : Obligations.AbsentStrobeLevelIgnored := by
  intro s q rest b hw hq hstb
  rw [step_of_transfer s q rest hw hq, step_of_transfer { s with inq := { q with stb := b } :: rest } _ rest hw rfl]
  exact exec_selected_withStb b (accept q rest s) hstb

end Sys2Proof.Machine
end

section
/-! SUPPORT. How many records each operation leaves waiting, and the rows in a state whose `bit_count` no run holds. -/

namespace Sys2Proof.Machine

/-! The records of one transaction. -/

section
variable (s : State)

/-- A flush emits a record for each bit held and one for the byte (R162). -/
theorem flush_waiting_length : (flush s).waiting.length ≤ s.waiting.length + s.bitCount.toNat + 1 := by
  by_cases hzero : s.bitCount = 0
  · rw [flush_of_zero s hzero]
    omega
  · have hbits : (closePrev s.sn s).validBits.length ≤ s.bitCount.toNat := by
      rw [closePrev_frame]
      exact List.length_take_le ..
    rw [flush_of_pos s hzero]
    simp only [List.length_append, List.length_map, List.length_singleton]
    omega

/-- The end of a session emits at most the bitrate and STOP (R108). -/
theorem finishStop_waiting_length : (finishStop s).waiting.length ≤ s.waiting.length + 2 := by
  obtain ⟨rs, hrs, hrate⟩ := timingReport_frame s
  rw [finishStop_eq, hrate]
  simp only [List.length_append, List.length_singleton]
  omega

/-- A clock edge reports at most the bit before it, and then at most the byte (R143, R144). -/
theorem closeAndReport_waiting_length : (closeAndReport s).waiting.length ≤ s.waiting.length + 1 := by
  have hclosed : (closePrev s.sn s).waiting = s.waiting := by rw [closePrev_frame]
  unfold closeAndReport
  split
  · dsimp only
    split <;> simp [hclosed]
  · omega

theorem foldOrComplete_waiting_length (d : Level) : (foldOrComplete d s).waiting.length ≤ s.waiting.length + 1 := by
  unfold foldOrComplete
  split <;> simp

/-- Taking a bit emits nothing. -/
theorem takeBit_waiting (d : Level) : (takeBit d s).waiting = s.waiting := by
  rw [takeBit_eq]

theorem flushIfFull_waiting_length : (flushIfFull s).waiting.length ≤ s.waiting.length + 9 := by
  unfold flushIfFull
  split
  · next hfull => simpa [hfull] using flush_waiting_length s
  · omega

end

/-- With at most eight bits held a row emits at most eleven records: the most is a stop with eight bits, a byte, a bitrate and
STOP (R96). -/
theorem performRow_waiting_length {i : Instr} {s t : State} (hcount : s.bitCount.toNat ≤ 8) (h : performRow i s = .next t) :
    t.waiting.length ≤ s.waiting.length + 11 := by
  rcases performRow_next i s t h with rfl | ⟨v, rfl⟩ | ⟨k, rfl⟩ | hstop | ⟨d, hbit⟩ | ⟨d, hbit⟩
  · omega
  · simp
  · simp
  · have hflush := flush_waiting_length s
    rcases stopHandler_next s t hstop with ⟨-, rfl⟩ | ⟨-, -, rfl⟩
    · have hfinish := finishStop_waiting_length s
      omega
    · have hfinish := finishStop_waiting_length (flush s)
      omega
  · obtain ⟨-, rfl⟩ := execBit2w_next d s t hbit
    have hreport := closeAndReport_waiting_length (countBit s)
    have hfold := foldOrComplete_waiting_length (append d s.sn (closeAndReport (countBit s))) d
    rw [append_waiting] at hfold
    rw [countBit_waiting] at hreport
    omega
  · rw [execBit3w_next_eq_takeBit d s t hbit, takeBit_waiting]
    have hflush := flushIfFull_waiting_length s
    omega

theorem eval_waiting_length {s t : State} (hcount : s.bitCount.toNat ≤ 8) (h : eval s = .next t) :
    t.waiting.length ≤ s.waiting.length + 11 := by
  obtain ⟨u, hu, rfl⟩ := eval_next s t h
  rw [latchPrev_waiting]
  exact performRow_waiting_length hcount hu

/-- Every transaction, once transferred, emits at most eleven records; only one that evaluates a sample emits any. -/
theorem exec_selected_waiting_length {a t : State} (hcount : a.bitCount.toNat ≤ 8) (h : exec a.selected a = .next t) :
    t.waiting.length ≤ a.waiting.length + 11 := by
  rcases exec_selected_next a t h with
    ⟨-, -, rfl⟩ | ⟨-, -, rfl⟩ | ⟨-, -, -, hsample⟩ | ⟨-, -, -, hstart⟩
  · exact Nat.le_add_right ..
  · exact Nat.le_add_right ..
  · exact eval_waiting_length (s := nextSample a) hcount (execSample_next a t hsample).2
  · rcases execDecodeStart_next a t hstart with ⟨-, rfl⟩ | ⟨-, rfl⟩ | ⟨-, -, -, heval⟩
    · exact Nat.le_add_right ..
    · exact Nat.le_add_right ..
    · exact eval_waiting_length (s := firstSample (latchConfig a)) hcount heval

/-- Settles O16: with no record waiting a step is idle or performs one transaction, and a sound state holds at most eight bits. -/
theorem atMostElevenRecords : Obligations.AtMostElevenRecords := by
  intro s t hsound hw h
  rcases step_next s t h with ⟨hne, -⟩ | ⟨-, -, rfl⟩ | ⟨q, rest, -, -, hexec⟩
  · exact absurd hw hne
  · simp [hw]
  · simpa [hw] using exec_selected_waiting_length (a := accept q rest s) hsound.countAtMostEight hexec

/-! A `bit_count` no run holds (log 7). -/

/-- The bit list of a byte record is the list of its bits, in a record's eight places (R92, R161). -/
theorem bitList_eq_bitListOf (s : State) (n : Nat) : s.bitList n = bitListOf ((List.range n).map s.bitAt) := by
  refine Vector.ext fun i hi => ?_
  have hentry : (s.bitList n)[i] = if i < n then s.bitAt i else BitRec.empty := by
    interval_cases i <;> rfl
  rw [hentry, bitListOf, Vector.getElem_ofFn]
  by_cases hin : i < n <;> simp [hin]

/-- The record of a byte, from its bits. -/
theorem byteRecord_eq_byteRecordOf (n : Nat) (s : State) :
    byteRecord n s = s.byteRecordOf ((List.range n).map s.bitAt) s.byteSs s.value := by
  simp [byteRecord, State.byteRecordOf, State.byteKind, bitList_eq_bitListOf]

/-- What BYTE_COMPLETE_2W writes, and that it writes nothing else (R163). -/
theorem byteComplete2w_eq (s : State) :
    byteComplete2w s =
      { s with
        bitCount := 0
        value := 0
        bits := Vector.replicate 9 BitRec.empty
        byteCount := saturate s.par.wBc (s.byteCount + 1)
        ackSs := (s.bitAt 7).es
        waiting := s.waiting ++ [byteRecord 8 s]
        state := .findAck } := rfl

/-- It reads the first eight entries of the buffer alone, and writes over the count and the buffer. -/
theorem byteComplete2w_of_same_entries (s : State) (count : BitVec 4) (buffer : Vector BitRec 9) (counted : Nat)
    (h : ∀ i < 8, ({ s with bits := buffer } : State).bitAt i = s.bitAt i) :
    byteComplete2w { s with bitCount := count, bits := buffer, pduBitCount := counted } =
      { byteComplete2w s with pduBitCount := counted } := by
  have hlist : ({ s with bits := buffer } : State).bitList 8 = s.bitList 8 := by
    rw [bitList_eq_bitListOf, bitList_eq_bitListOf]
    exact congrArg bitListOf (List.map_congr_left fun i hi => h i (List.mem_range.mp hi))
  have hrecord : byteRecord 8 { s with bitCount := count, bits := buffer, pduBitCount := counted } = byteRecord 8 s :=
    congrArg (fun l => { byteRecord 8 s with blist := l }) hlist
  rw [byteComplete2w_eq, byteComplete2w_eq, hrecord]
  exact congrArg (fun b => { byteComplete2w s with pduBitCount := counted, ackSs := b.es }) (h 7 (by omega))

/-- Past the end of the buffer APPEND counts the bit and drops its entry. -/
theorem append_past_buffer (d : Level) (n : Nat) (s : State) (h : 9 ≤ s.bitCount.toNat) :
    append d n s = { s with bitCount := s.bitCount + 1 } := by
  have hne : s.bitCount ≠ 0 := fun hzero => by simp [hzero] at h
  rw [append, if_neg hne, Vector.setIfInBounds_eq_of_size_le h]

/-- At 9 the edge has no place in the buffer and no bit to report: it completes the byte of the first eight entries (R143, R163). -/
theorem execBit2w_of_nine (d : Level) (s : State) (h : s.bitCount = 9) :
    execBit2w d s = .next { byteComplete2w s with pduBitCount := s.pduBitCount + 1 } := by
  have hclosed : closeAndReport (countBit s) = closeEntry 8 s.sn (countBit s) := by
    simp [closeAndReport, closePrev, h]
  have hnine : (closeEntry 8 s.sn (countBit s)).bitCount = 9 := h
  have hentries : ∀ i < 8, (closeEntry 8 s.sn s).bitAt i = s.bitAt i := fun i hi => by
    rw [closeEntry_bitAt, if_neg (by omega)]
  rw [execBit2w, h, if_pos (by decide), hclosed, append_past_buffer _ _ _ (by rw [hnine]; decide), hnine]
  exact congrArg Host.Outcome.next (byteComplete2w_of_same_entries s 10 _ _ hentries)

/-- Above 8 BIT_3W and the flush of a 3-wire stop are refused. -/
theorem execBit3w_of_above (d : Level) (s : State) (h : 8 < s.bitCount.toNat) :
    execBit3w d s = .refused .bitCountReserved :=
  if_neg (by simpa [State.bitCountLegal] using h)

theorem stopHandler_of_above (s : State) (hv : s.variant = .threeWire) (h : 8 < s.bitCount.toNat) :
    stopHandler s = .refused .bitCountReserved := by
  have hlegal : s.bitCountLegal = false := by simpa [State.bitCountLegal] using h
  simp [stopHandler, hv, hlegal]

/-- Settles O32: BIT_2W at 9 completes the byte of the first eight entries, and every other row here is refused by its bound. -/
theorem bitCountAboveEight : Obligations.BitCountAboveEight := by
  intro s V P ps pd pc stb d c h
  refine ⟨fun hnine => ?_, fun hten => if_neg (by omega), execBit3w_of_above d s h, fun hv i hi => ?_⟩
  · rw [← byteRecord_eq_byteRecordOf]
    exact execBit2w_of_nine d s (BitVec.eq_of_toNat_eq hnine)
  · simp only [List.mem_cons, List.not_mem_nil, or_false] at hi
    rcases hi with rfl | rfl | rfl | rfl <;> exact stopHandler_of_above s hv h

/-! The host's view. -/

/-- The two kinds of byte record fan out alike (R95). -/
theorem fanOut_of_byte (radix : BitVec 2) (r : Record) (h : r.kind = .command ∨ r.kind = .data) :
    fanOut radix r = byteItems radix r := by
  unfold fanOut
  rcases h with hkind | hkind <;> rw [hkind]

/-- Settles O54: the items of a byte record are listed in this order. -/
theorem byteRecordFansOut : Obligations.ByteRecordFansOut := fun radix r hkind => fanOut_of_byte radix r hkind

end Sys2Proof.Machine
end

section
/-! SUPPORT. The condition detector's own rows: the starts, the NOPs, and a whole SAMPLE in FIND_START. -/

namespace Sys2Proof.Machine

/-- Settles O9: SAMPLE performs the row of the vector held before it, an operation row, which a sample performs as `exec` does. -/
theorem sampleRunsSelectedOperation : Obligations.SampleRunsSelectedOperation := by
  intro s _
  refine ⟨fun hlast => if_neg (Nat.not_lt.mpr hlast.ge), fun hlast => ?_⟩
  rw [← performRow_eq_exec _ _ (decodeVector_isOperation _)]
  exact execSample_of_lt s hlast

/-- What START_HANDLER writes, and that it writes nothing else: `byte_ss` and `ack_ss` stay (R105). -/
theorem startHandler_eq (s : State) :
    startHandler s =
      { s with
        pduSs := s.sn
        pduBitCount := 0
        byteCount := 0
        bitCount := 0
        value := 0
        bits := Vector.replicate 9 BitRec.empty
        waiting := s.waiting ++ [{ kind := .start, ss := s.sn, es := s.sn }]
        state := .findData } := rfl

/-- Settles O24: both rows are the start handler of a 3-wire session (R101, R102). -/
theorem threeWireStartRows : Obligations.ThreeWireStartRows := by
  intro s V pd pc d i hi
  have hrow : exec i s = .next (startHandler { s with variant := .threeWire }) := by
    simp only [List.mem_cons, List.not_mem_nil, or_false] at hi
    rcases hi with rfl | rfl <;> rfl
  rw [hrow, startHandler_eq]

/-- Settles O25: the row is the start handler of a 2-wire session (R103). -/
theorem twoWireStartRow : Obligations.TwoWireStartRow := by
  intro s V P ps pc stb
  exact congrArg Host.Outcome.next (startHandler_eq { s with variant := .twoWire })

/-- Settles O28: `exec` performs a NOP row as a sample does. -/
theorem nopRowsChangeNothing : Obligations.NopRowsChangeNothing := by
  intro s V P ps pd pc stb d c i hi
  have hrow : i.isOperation = true ∧ i.mnemonic ∈ ["NOP_START", "NOP_DATA", "NOP_ACK", "NOP_STOP"] := by
    simp only [List.mem_cons, List.not_mem_nil, or_false] at hi
    rcases hi with rfl | rfl | rfl | rfl <;> simp [Instr.isOperation, Instr.mnemonic]
  obtain ⟨hop, hnop⟩ := hrow
  rw [← performRow_eq_exec i s hop, performRow_of_nop i hnop]

/-- The row of a sample in FIND_START, performed: the variant of the session it starts is that of its edge (R101 to R104). -/
theorem performRow_of_findStart (s u : State) (hs : s.state = .findStart) :
    performRow (Sys2Proof.decodeVector s.decodeVector) u = .next
      (if s.strobeFalling = true ∨ (s.cur.clk && s.dataFalling) = true then
        startHandler { u with variant := if s.strobeFalling = true then .threeWire else .twoWire }
      else u) := by
  rw [decodeVector_of_findStart s hs, strobeFalls_eq, dataFallsHigh_eq]
  cases s.strobeFalling with
  | true => cases s.cur.clk <;> rfl
  | false => cases (s.cur.clk && s.dataFalling) <;> rfl

/-- Settles O26: around the row, at the next index, only the index and `prev` move. -/
theorem sampleInFindStart : Obligations.SampleInFindStart := by
  intro s _ hs hlast
  refine (execSample_of_lt s hlast).trans ?_
  rw [performRow_of_findStart s (nextSample s) hs, mapNext_of_next]
  split <;> rfl

end Sys2Proof.Machine
end

section
/-! SUPPORT. What a step does to the session: which rows it can perform, the session's state and variant after them, and the kinds of record they emit. -/

namespace Sys2Proof.Machine

/-! The rows of a step. -/

/-- In FIND_STOP a sample does nothing or ends the session (R111 to R113). -/
theorem performRow_next_of_findStop (s t : State) (hs : s.state = .findStop)
    (h : performRow (Sys2Proof.decodeVector s.decodeVector) s = .next t) : t = s ∨ stopHandler s = .next t := by
  rw [decodeVector_of_findStop s hs] at h
  split at h
  · exact .inr h
  · split at h
    · exact .inr h
    · exact .inl (Host.Outcome.next.inj h).symm

/-- Outside FIND_START a sample does nothing, takes a bit, stops, or reports an answer, and in FIND_ACK it never stops (R116). -/
theorem performRow_next_of_session (s t : State) (hs : s.state ≠ .findStart)
    (h : performRow (Sys2Proof.decodeVector s.decodeVector) s = .next t) :
    t = s ∨ (∃ k ∈ [Kind.ack, .nack], t = answer k s) ∨ (s.state ≠ .findAck ∧ stopHandler s = .next t) ∨
      (∃ d, execBit2w d s = .next t) ∨ (∃ d, execBit3w d s = .next t) := by
  cases hstate : s.state with
  | findStart => exact absurd hstate hs
  | findData =>
    rcases performRow_next_of_findData s t hstate h with heq | hstop | ⟨-, hbit⟩ | ⟨-, hbit⟩
    · exact .inl heq
    · exact .inr (.inr (.inl ⟨by simp, hstop⟩))
    · exact .inr (.inr (.inr (.inl ⟨_, hbit⟩)))
    · exact .inr (.inr (.inr (.inr ⟨_, hbit⟩)))
  | findAck =>
    rw [decodeVector_of_findAck s hstate] at h
    split at h
    · split at h
      · exact .inr (.inl ⟨.nack, by simp, (Host.Outcome.next.inj h).symm⟩)
      · exact .inr (.inl ⟨.ack, by simp, (Host.Outcome.next.inj h).symm⟩)
    · exact .inl (Host.Outcome.next.inj h).symm
  | findStop =>
    rcases performRow_next_of_findStop s t hstate h with heq | hstop
    · exact .inl heq
    · exact .inr (.inr (.inl ⟨by simp, hstop⟩))

/-- The part of the state that says where the session stands. -/
def State.phase (s : State) : Fsm × Variant := (s.state, s.variant)

/-- A step performs no row and emits nothing, or is a RESET, or performs the row that a sample selects, in a state of the same phase
with no record waiting. -/
theorem step_next_row (s t : State) (h : step s = .next t) :
    (t.phase = s.phase ∧ t.waiting <:+ s.waiting) ∨
      (∃ q rest, s.inq = q :: rest ∧ q.op = 1 ∧ s.waiting = [] ∧ t = resetRegisters (accept q rest s)) ∨
      ∃ a u cur, a.phase = s.phase ∧ a.waiting = [] ∧ performRow (Sys2Proof.decodeVector a.decodeVector) a = .next u ∧
        t = latchPrev cur u := by
  rcases step_next s t h with ⟨-, rfl⟩ | ⟨-, -, rfl⟩ | ⟨q, rest, hw, hq, hexec⟩
  · refine .inl ⟨by rw [drainCycle_eq]; rfl, ?_⟩
    rw [drainCycle_eq]
    dsimp only
    split
    · exact List.tail_suffix _
    · exact List.suffix_rfl
  · exact .inl ⟨rfl, List.suffix_rfl⟩
  · rcases exec_selected_next _ t hexec with
      ⟨hhigh, hlow, rfl⟩ | ⟨-, -, rfl⟩ | ⟨-, -, -, hsample⟩ | ⟨-, -, -, hstart⟩
    · have hreset : q.op = 1 := by
        rcases code_cases q.op with hop | hop | hop | hop
        · simp [hop] at hlow
        · exact hop
        · simp [hop] at hlow
        · simp [hop] at hhigh
      exact .inr (.inl ⟨q, rest, hq, hreset, hw, rfl⟩)
    · exact .inl ⟨rfl, List.suffix_rfl⟩
    · obtain ⟨u, hu, rfl⟩ := eval_next _ t (execSample_next _ t hsample).2
      exact .inr (.inr ⟨nextSample (accept q rest s), u, _, rfl, hw, hu, rfl⟩)
    · rcases execDecodeStart_next _ t hstart with ⟨-, rfl⟩ | ⟨-, rfl⟩ | ⟨-, -, -, heval⟩
      · exact .inl ⟨rfl, List.suffix_rfl⟩
      · exact .inl ⟨rfl, List.suffix_rfl⟩
      · obtain ⟨u, hu, rfl⟩ := eval_next _ t heval
        exact .inr (.inr ⟨firstSample (latchConfig (accept q rest s)), u, _, rfl, hw, hu, rfl⟩)

/-! The phase under each operation. -/

section
variable (s : State)

@[simp] theorem closePrev_phase (n : Nat) : (closePrev n s).phase = s.phase := by
  rw [closePrev_frame]
  rfl

@[simp] theorem flush_phase : (flush s).phase = s.phase := by
  by_cases hzero : s.bitCount = 0
  · rw [flush_of_zero s hzero]
  · rw [flush_of_pos s hzero]
    rfl

@[simp] theorem flushIfFull_phase : (flushIfFull s).phase = s.phase := by
  unfold flushIfFull
  split
  · exact flush_phase s
  · rfl

@[simp] theorem takeBit_phase (d : Level) : (takeBit d s).phase = s.phase := by
  rw [takeBit_eq]
  rfl

/-- A stop leaves FIND_START and the variant of the session it ended (R108). -/
theorem finishStop_phase : (finishStop s).phase = (.findStart, s.variant) := by
  rw [finishStop_eq]
  rfl

end

section
variable {s t : State}

theorem stopHandler_phase (h : stopHandler s = .next t) : t.phase = (.findStart, s.variant) := by
  rcases stopHandler_next s t h with ⟨-, rfl⟩ | ⟨-, -, rfl⟩
  · exact finishStop_phase s
  · rw [finishStop_phase]
    exact congrArg (Fsm.findStart, ·.2) (flush_phase s)

/-- BIT_2W stays in its state or, at the ninth edge, enters FIND_ACK (R143, R163). -/
theorem execBit2w_phase {d : Level} (h : execBit2w d s = .next t) : t.phase = s.phase ∨ t.phase = (.findAck, s.variant) := by
  obtain ⟨-, rfl⟩ := execBit2w_next d s t h
  obtain ⟨rs, hreport⟩ := closeAndReport_eq_emitAll (countBit s)
  have hbefore : (append d s.sn (closeAndReport (countBit s))).phase = s.phase := by
    rw [hreport]
    exact closePrev_phase (countBit s) s.sn
  unfold foldOrComplete
  split
  · exact .inl hbefore
  · exact .inr (congrArg (Fsm.findAck, ·.2) hbefore)

theorem execBit3w_phase {d : Level} (h : execBit3w d s = .next t) : t.phase = s.phase := by
  rw [execBit3w_next_eq_takeBit d s t h, takeBit_phase, flushIfFull_phase]

/-- Only a start writes the variant (R21, R105). -/
theorem performRow_variant_of_session (hs : s.state ≠ .findStart)
    (h : performRow (Sys2Proof.decodeVector s.decodeVector) s = .next t) : t.variant = s.variant := by
  rcases performRow_next_of_session s t hs h with rfl | ⟨k, -, rfl⟩ | ⟨-, hstop⟩ | ⟨d, hbit⟩ | ⟨d, hbit⟩
  · rfl
  · rfl
  · exact congrArg Prod.snd (stopHandler_phase hstop)
  · rcases execBit2w_phase hbit with hphase | hphase <;> exact congrArg Prod.snd hphase
  · exact congrArg Prod.snd (execBit3w_phase hbit)

/-- No row writes FIND_STOP into `state` (R115). -/
theorem performRow_state_ne_findStop {i : Instr} (hs : s.state ≠ .findStop) (h : performRow i s = .next t) :
    t.state ≠ .findStop := by
  have hsame : t.phase = s.phase → t.state ≠ .findStop := fun hphase => (congrArg Prod.fst hphase).trans_ne hs
  rcases performRow_next i s t h with rfl | ⟨v, rfl⟩ | ⟨k, rfl⟩ | hstop | ⟨d, hbit⟩ | ⟨d, hbit⟩
  · exact hs
  · simp
  · simp
  · have hstate : t.state = .findStart := congrArg Prod.fst (stopHandler_phase hstop)
    simp [hstate]
  · rcases execBit2w_phase hbit with hphase | hphase
    · exact hsame hphase
    · have hstate : t.state = .findAck := congrArg Prod.fst hphase
      simp [hstate]
  · exact hsame (execBit3w_phase hbit)

end

/-- Settles O47: outside FIND_START the rows a sample selects keep the variant, and the RESET is excluded. -/
theorem variantStableInSession : Obligations.VariantStableInSession := by
  intro s t hs hop h
  rcases step_next_row s t h with ⟨hphase, -⟩ | ⟨q, rest, hq, hreset, -, -⟩ | ⟨a, u, cur, hphase, -, hu, rfl⟩
  · exact congrArg Prod.snd hphase
  · exact absurd hreset (hop q (by simp [hq]))
  · have hstate : a.state ≠ .findStart := (congrArg Prod.fst hphase).trans_ne hs
    exact (performRow_variant_of_session hstate hu).trans (congrArg Prod.snd hphase)

/-- Settles O48: no row enters FIND_STOP, and a RESET goes to FIND_START. -/
theorem findStopNeverEntered : Obligations.FindStopNeverEntered := by
  intro s t hs h
  rcases step_next_row s t h with ⟨hphase, -⟩ | ⟨q, rest, -, -, -, rfl⟩ | ⟨a, u, cur, hphase, -, hu, rfl⟩
  · exact (congrArg Prod.fst hphase).trans_ne hs
  · simp
  · have hstate : a.state ≠ .findStop := (congrArg Prod.fst hphase).trans_ne hs
    exact performRow_state_ne_findStop (t := u) hstate hu

/-! The kinds of record each operation emits. -/

/-- Every record waiting in `t` waited in `s` already or is of one of the listed kinds. -/
def State.EmitsKinds (kinds : List Kind) (s t : State) : Prop := ∀ r ∈ t.waiting, r ∈ s.waiting ∨ r.kind ∈ kinds

theorem State.EmitsKinds.of_append {kinds : List Kind} {s t : State} {rs : List Record} (ht : t.waiting = s.waiting ++ rs)
    (hrs : ∀ r ∈ rs, r.kind ∈ kinds) : State.EmitsKinds kinds s t := by
  intro r hr
  rw [ht, List.mem_append] at hr
  exact hr.imp_right (hrs r)

theorem State.EmitsKinds.of_eq (kinds : List Kind) {s t : State} (ht : t.waiting = s.waiting) :
    State.EmitsKinds kinds s t := fun r hr => .inl (by rwa [ht] at hr)

theorem State.EmitsKinds.trans {kinds : List Kind} {s t u : State} (hst : State.EmitsKinds kinds s t)
    (htu : State.EmitsKinds kinds t u) : State.EmitsKinds kinds s u :=
  fun r hr => (htu r hr).elim (hst r) .inr

theorem State.EmitsKinds.mono {kinds more : List Kind} {s t : State} (h : State.EmitsKinds kinds s t) (hsub : kinds ⊆ more) :
    State.EmitsKinds more s t := fun r hr => (h r hr).imp_right (@hsub _)

/-- The kinds of the data handler's records: a bit, and a byte of either kind (R94). -/
def Kind.ofData : List Kind := [.bit, .command, .data]

theorem byteRecord_kind_mem (n : Nat) (s : State) : (byteRecord n s).kind ∈ Kind.ofData := by
  unfold byteRecord State.byteKind
  split <;> simp [Kind.ofData]

section
variable (s : State)

theorem closePrev_emitsKinds (kinds : List Kind) (n : Nat) : State.EmitsKinds kinds s (closePrev n s) :=
  .of_eq kinds (by rw [closePrev_frame])

theorem flush_emitsKinds : State.EmitsKinds Kind.ofData s (flush s) := by
  by_cases hzero : s.bitCount = 0
  · rw [flush_of_zero s hzero]
    exact .of_eq _ rfl
  · rw [flush_of_pos s hzero]
    refine .of_append (List.append_assoc ..) fun r hr => ?_
    simp only [List.mem_append, List.mem_map, List.mem_singleton] at hr
    rcases hr with ⟨b, -, rfl⟩ | rfl
    · simp [bitRecord, Kind.ofData]
    · exact byteRecord_kind_mem _ _

theorem flushIfFull_emitsKinds : State.EmitsKinds Kind.ofData s (flushIfFull s) := by
  unfold flushIfFull
  split
  · exact flush_emitsKinds s
  · exact .of_eq _ rfl

theorem closeAndReport_emitsKinds : State.EmitsKinds Kind.ofData s (closeAndReport s) := by
  unfold closeAndReport
  split
  · dsimp only
    refine (closePrev_emitsKinds s Kind.ofData s.sn).trans ?_
    split
    · exact .of_append rfl (by simp [bitRecord, Kind.ofData])
    · exact .of_eq _ rfl
  · exact .of_eq _ rfl

theorem foldOrComplete_emitsKinds (d : Level) : State.EmitsKinds Kind.ofData s (foldOrComplete d s) := by
  unfold foldOrComplete
  split
  · exact .of_eq _ rfl
  · exact .of_append (byteComplete2w_waiting s) (by simpa using byteRecord_kind_mem 8 s)

theorem finishStop_emitsKinds : State.EmitsKinds [.bitrate, .stop] s (finishStop s) := by
  have hrate : State.EmitsKinds [.bitrate, .stop] s (timingReport s) := by
    unfold timingReport
    split
    · exact .of_eq _ rfl
    · exact .of_append rfl (by simp)
  refine hrate.trans (.of_append ?_ (rs := [{ kind := .stop, ss := s.sn, es := s.sn }]) (by simp))
  rw [finishStop_eq]

end

section
variable {s t : State}

theorem execBit2w_emitsKinds {d : Level} (h : execBit2w d s = .next t) : State.EmitsKinds Kind.ofData s t := by
  obtain ⟨-, rfl⟩ := execBit2w_next d s t h
  exact (closeAndReport_emitsKinds (countBit s)).trans (foldOrComplete_emitsKinds (append d s.sn _) d)

theorem execBit3w_emitsKinds {d : Level} (h : execBit3w d s = .next t) : State.EmitsKinds Kind.ofData s t := by
  rw [execBit3w_next_eq_takeBit d s t h]
  exact (flushIfFull_emitsKinds s).trans (.of_eq _ (takeBit_waiting ..))

theorem stopHandler_emitsKinds (h : stopHandler s = .next t) : State.EmitsKinds (Kind.ofData ++ [.bitrate, .stop]) s t := by
  rcases stopHandler_next s t h with ⟨-, rfl⟩ | ⟨-, -, rfl⟩
  · exact (finishStop_emitsKinds s).mono (List.subset_append_right ..)
  · exact ((flush_emitsKinds s).mono (List.subset_append_left ..)).trans
      ((finishStop_emitsKinds _).mono (List.subset_append_right ..))

/-- The kinds of the records emitted outside FIND_START: all but START, and in FIND_ACK neither START nor STOP (R116). -/
def Fsm.sessionKinds : Fsm → List Kind
  | .findAck => [.ack, .nack] ++ Kind.ofData
  | _ => [.ack, .nack] ++ Kind.ofData ++ [.bitrate, .stop]

theorem ofData_subset_sessionKinds (f : Fsm) : Kind.ofData ⊆ f.sessionKinds := by
  cases f <;> decide

theorem performRow_emits_sessionKinds (hs : s.state ≠ .findStart)
    (h : performRow (Sys2Proof.decodeVector s.decodeVector) s = .next t) : State.EmitsKinds s.state.sessionKinds s t := by
  rcases performRow_next_of_session s t hs h with rfl | ⟨k, hk, rfl⟩ | ⟨hack, hstop⟩ | ⟨d, hbit⟩ | ⟨d, hbit⟩
  · exact .of_eq _ rfl
  · have hanswers : [Kind.ack, .nack] ⊆ s.state.sessionKinds := by cases s.state <;> decide
    exact .of_append (answer_waiting k s) (List.forall_mem_singleton.mpr (hanswers hk))
  · refine (stopHandler_emitsKinds hstop).mono ?_
    revert hack
    cases s.state <;> decide
  · exact (execBit2w_emitsKinds hbit).mono (ofData_subset_sessionKinds _)
  · exact (execBit3w_emitsKinds hbit).mono (ofData_subset_sessionKinds _)

end

/-- Settles O50: with none waiting before, every record after the step was emitted by the row a sample selected. -/
theorem noStartInsideSession : Obligations.NoStartInsideSession := by
  intro s t hw hs h r hr
  rcases step_next_row s t h with ⟨-, hsuffix⟩ | ⟨q, rest, -, -, -, rfl⟩ | ⟨a, u, cur, hphase, ha, hu, rfl⟩
  · rw [hw] at hsuffix
    simp [List.eq_nil_of_suffix_nil hsuffix] at hr
  · simp [hw] at hr
  · have hstate : a.state = s.state := congrArg Prod.fst hphase
    have hsession : a.state ≠ .findStart := by rcases hs with hs | hs <;> simp [hstate, hs]
    have hkind : r.kind ∈ s.state.sessionKinds :=
      hstate ▸ (performRow_emits_sessionKinds hsession hu r hr).resolve_left (by simp [ha])
    constructor
    · intro hstart
      rw [hstart] at hkind
      rcases hs with hs | hs <;> simp [hs, Fsm.sessionKinds, Kind.ofData] at hkind
    · intro hack hstop
      rw [hstop, hack] at hkind
      simp [Fsm.sessionKinds, Kind.ofData] at hkind

end Sys2Proof.Machine
end

section
/-! SUPPORT. The end of a session: what a flush reports, in the form of the bits held, and what the four stop rows then do. -/

namespace Sys2Proof.Machine

/-! The flush. -/

/-- The valid entries are the first `bit_count` entries of the buffer, read one by one (R24). -/
theorem validBits_eq (s : State) (h : s.bitCount.toNat ≤ 9) : s.validBits = (List.range s.bitCount.toNat).map s.bitAt := by
  refine List.ext_getElem (by simpa [State.validBits] using h) fun i hi hi' => ?_
  have hlt : i < 9 := by
    simp only [List.length_map, List.length_range] at hi'
    omega
  simp [State.validBits, State.bitAt, hlt]

/-- The bits held, after CLOSE_PREV at the current sample (R141). -/
theorem closePrev_bitAt_eq_closedBits (s : State) (hpos : 1 ≤ s.bitCount.toNat) (h : s.bitCount.toNat ≤ 9) :
    (List.range s.bitCount.toNat).map (closePrev s.sn s).bitAt = s.closedBits s.bitCount.toNat := by
  refine List.map_congr_left fun i hi => ?_
  have hlt := List.mem_range.mp hi
  rw [closePrev_of_pos s.sn s hpos, closeEntry_bitAt]
  by_cases hnewest : i + 1 = s.bitCount.toNat
  · rw [if_pos hnewest, if_pos (by omega), ← hnewest]
    rfl
  · rw [if_neg hnewest, if_neg (by omega)]

/-- A flush of one to eight bits: the bits, the newest one closed now, then their byte, and an empty accumulator (R162). -/
theorem flush_eq_closedBits (s : State) (hpos : 1 ≤ s.bitCount.toNat) (hlegal : s.bitCount.toNat ≤ 8) :
    flush s =
      { s with
        bitCount := 0
        value := 0
        bits := Vector.replicate 9 BitRec.empty
        byteCount := min (s.byteCount + 1) (2 ^ s.par.wBc - 1)
        waiting := s.waiting ++ (s.closedBits s.bitCount.toNat).map bitRecord ++
          [s.byteRecordOf (s.closedBits s.bitCount.toNat) s.byteSs s.value] } := by
  have hne : s.bitCount ≠ 0 := fun hzero => by simp [hzero] at hpos
  have hcount : (closePrev s.sn s).bitCount = s.bitCount := by rw [closePrev_frame]
  have hbits := closePrev_bitAt_eq_closedBits s hpos (by omega)
  have hvalid : (closePrev s.sn s).validBits = s.closedBits s.bitCount.toNat := by
    rw [validBits_eq _ (by rw [hcount]; omega), hcount, hbits]
  rw [flush_of_pos s hne, hvalid, byteRecord_eq_byteRecordOf, hbits, closePrev_frame]
  rfl

/-! The stop. -/

/-- TIMING_REPORT appends the bitrate record, if there is one (R180). -/
theorem timingReport_waiting (s : State) : (timingReport s).waiting = s.waiting ++ s.bitrateRecords := by
  by_cases hnone : s.elapsed = 0
  · rw [timingReport_of_zero s hnone, show s.bitrateRecords = [] from if_pos hnone, List.append_nil]
  · rw [timingReport_of_pos s hnone, show s.bitrateRecords = [_] from if_neg hnone]
    rfl

/-- The end of a session after its flush: the bitrate, STOP, and an empty accumulator in FIND_START (R108). -/
theorem finishStop_eq_bitrateRecords (s : State) :
    finishStop s =
      { s with
        bitCount := 0
        value := 0
        bits := Vector.replicate 9 BitRec.empty
        waiting := s.waiting ++ s.bitrateRecords ++ [{ kind := .stop, ss := s.sn, es := s.sn }]
        state := .findStart } := by
  rw [finishStop_eq, timingReport_waiting]

/-- A stop in a 2-wire session, or with no bit held, has nothing to flush. -/
theorem stopHandler_without_flush (s : State) (h : s.variant = .twoWire ∨ s.bitCount = 0) :
    stopHandler s = .next (finishStop s) := by
  unfold stopHandler
  split
  · rfl
  · next hv =>
    have hzero : s.bitCount = 0 := h.resolve_left (by simp [hv])
    rw [if_pos (by simp [State.bitCountLegal, hzero]), flush_of_zero s hzero]

/-- A stop in a 3-wire session with at most eight bits held flushes them (R108). -/
theorem stopHandler_of_threeWire (s : State) (hv : s.variant = .threeWire) (hlegal : s.bitCount.toNat ≤ 8) :
    stopHandler s = .next (finishStop (flush s)) := by
  have hcount : s.bitCountLegal = true := by simpa [State.bitCountLegal] using hlegal
  rw [stopHandler, hv]
  exact if_pos hcount

/-- The four stop rows are the stop handler (R106, R107, R111, R112). -/
theorem exec_stopRow (i : Instr) (V P ps pd pc stb d c : Bool) (s : State)
    (hi : i ∈ [Instr.stopStb V pd pc d c, .stopDat V P ps pc stb, .stopStbFs V pd pc d c, .stopDatFs V P ps pc stb]) :
    exec i s = stopHandler s := by
  simp only [List.mem_cons, List.not_mem_nil, or_false] at hi
  rcases hi with rfl | rfl | rfl | rfl <;> rfl

/-- Settles O29: a stop is the flush, if there is one, and then the end of the session, which reads no field that the flush writes
but the records. -/
theorem stopRowsEndTheSession : Obligations.StopRowsEndTheSession := by
  intro s V P ps pd pc stb d c i hi
  rw [exec_stopRow i V P ps pd pc stb d c s hi]
  refine ⟨fun hnothing => ?_, fun hv hpos hlegal => ?_⟩
  · rw [stopHandler_without_flush s hnothing, finishStop_eq_bitrateRecords]
  · rw [stopHandler_of_threeWire s hv hlegal, flush_eq_closedBits s hpos hlegal, finishStop_eq_bitrateRecords]
    rfl

end Sys2Proof.Machine
end

section
/-! SUPPORT. The clock edges of a 3-wire session: the bits and the byte that a list of edges puts into the accumulator, the session cut into its bytes, and the stop that reports the last of them. -/

namespace Sys2Proof.Machine

/-! The byte in the shift register. -/

/-- The fold halves the value and puts the new bit at the top (R142). -/
theorem foldBit_toNat (value : Byte) (d : Level) : (foldBit value d).toNat = d.toNat * 2 ^ 7 + value.toNat / 2 := by
  have hlow : value.toNat / 2 < 2 ^ 7 := by
    have := value.isLt
    omega
  have hhigh : ((BitVec.ofBool d).setWidth 8 <<< 7).toNat = 2 ^ 7 * d.toNat := by cases d <;> rfl
  rw [foldBit, BitVec.toNat_or, hhigh, BitVec.toNat_ushiftRight, Nat.shiftRight_eq_div_pow, pow_one, Nat.or_comm,
    ← Nat.two_pow_add_eq_or_of_lt hlow, Nat.mul_comm]

theorem lsbFirst_lt (bs : List Level) : lsbFirst bs < 2 ^ bs.length := by
  induction bs with
  | nil => decide
  | cons b rest ih =>
    have hb := b.toNat_le
    rw [lsbFirst, List.length_cons, Nat.pow_succ]
    omega

/-- A bit after the others is the most significant one (R61). -/
theorem lsbFirst_append (bs : List Level) (d : Level) : lsbFirst (bs ++ [d]) = lsbFirst bs + d.toNat * 2 ^ bs.length := by
  induction bs with
  | nil => simp [lsbFirst]
  | cons b rest ih =>
    rw [List.cons_append, lsbFirst, ih, lsbFirst, List.length_cons, Nat.pow_succ]
    ring

/-- The bits held stand at the high end of the shift register, and one more fold keeps them there (R63, R142). -/
theorem foldBit_lsbFirst (bs : List Level) (d : Level) (hroom : bs.length ≤ 7) :
    foldBit (BitVec.ofNat 8 (lsbFirst bs * 2 ^ (8 - bs.length))) d =
      BitVec.ofNat 8 (lsbFirst (bs ++ [d]) * 2 ^ (8 - (bs ++ [d]).length)) := by
  have hsplit : 2 ^ bs.length * 2 ^ (7 - bs.length) = 2 ^ 7 := by rw [← Nat.pow_add, Nat.add_sub_cancel' hroom]
  have hlow : lsbFirst bs * 2 ^ (7 - bs.length) < 2 ^ 7 :=
    hsplit ▸ Nat.mul_lt_mul_of_pos_right (lsbFirst_lt bs) (Nat.two_pow_pos _)
  have hdouble : lsbFirst bs * 2 ^ (8 - bs.length) = lsbFirst bs * 2 ^ (7 - bs.length) * 2 := by
    rw [Nat.mul_assoc, ← Nat.pow_succ, Nat.succ_sub hroom]
  have hnew : lsbFirst (bs ++ [d]) * 2 ^ (8 - (bs ++ [d]).length) = d.toNat * 2 ^ 7 + lsbFirst bs * 2 ^ (7 - bs.length) := by
    rw [lsbFirst_append, List.length_append, List.length_singleton, show 8 - (bs.length + 1) = 7 - bs.length by omega,
      Nat.add_mul, Nat.mul_assoc, hsplit, Nat.add_comm]
  have hd := d.toNat_le
  refine BitVec.eq_of_toNat_eq ?_
  rw [foldBit_toNat, hnew, hdouble, BitVec.toNat_ofNat, BitVec.toNat_ofNat]
  omega

/-! The bits in the buffer. -/

/-- One more edge closes the bit before it and opens its own (R140). -/
theorem tiledBits_append (edges : List (Nat × Level)) (m n : Nat) (d : Level) :
    tiledBits (edges ++ [(m, d)]) n = tiledBits edges m ++ [{ v := d, ss := m, es := n }] := by
  match edges with
  | [] => rfl
  | [_] => rfl
  | (_, _) :: f :: rest =>
    have ih := tiledBits_append (f :: rest) m n d
    simp only [List.cons_append] at ih
    simp only [List.cons_append, tiledBits, ih]

theorem tiledBits_length (edges : List (Nat × Level)) (n : Nat) : (tiledBits edges n).length = edges.length := by
  match edges with
  | [] => rfl
  | [_] => rfl
  | (_, _) :: f :: rest => simp only [tiledBits, List.length_cons, tiledBits_length (f :: rest) n]

/-- Taking a bit closes the ones held at the current sample, and the new one is still open (R141, R145). -/
theorem takeBit_closedBits (d : Level) (s : State) (n : Nat) (hroom : s.bitCount.toNat ≤ 7) :
    ({ takeBit d s with sn := n } : State).closedBits (s.bitCount.toNat + 1) =
      s.closedBits s.bitCount.toNat ++ [{ v := d, ss := s.sn, es := n }] := by
  have hentry : ∀ i, ({ takeBit d s with sn := n } : State).bitAt i = (takeBit d s).bitAt i := fun _ => rfl
  rw [State.closedBits, List.range_succ, List.map_append]
  congr 1
  · refine List.map_congr_left fun i hi => ?_
    have hlt := List.mem_range.mp hi
    rw [if_neg (by omega), hentry, takeBit_bitAt d s hroom hlt.le, if_neg hlt.ne]
  · simp [hentry, takeBit_bitAt d s hroom le_rfl]

/-! The edges of one byte. -/

/-- `u` is `s` after the listed edges of one byte, taken into an empty accumulator: the bits and the value they leave there, the
byte's start sample, and nothing else but the count of edges and the sample index. -/
structure State.Takes (s : State) (edges : List (Nat × Level)) (u : State) : Prop where
  count : u.bitCount.toNat = edges.length
  bits : ∀ n, ({ u with sn := n } : State).closedBits edges.length = tiledBits edges n
  value : u.value = BitVec.ofNat 8 (lsbFirst (edges.map Prod.snd) * 2 ^ (8 - edges.length))
  start : edges ≠ [] → u.byteSs = (edges.headD (0, false)).1
  frame : u = { s with
    bitCount := u.bitCount
    value := u.value
    bits := u.bits
    byteSs := u.byteSs
    pduBitCount := s.pduBitCount + edges.length
    sn := u.sn }

theorem State.Takes.nil (s : State) (hcount : s.bitCount = 0) (hvalue : s.value = 0) : s.Takes [] s where
  count := by simp [hcount]
  bits := fun _ => rfl
  value := hvalue
  start := fun hne => absurd rfl hne
  frame := rfl

/-- One more edge, into a byte with room for it. -/
theorem State.Takes.snoc {s u : State} {edges : List (Nat × Level)} (h : s.Takes edges u) (hroom : edges.length ≤ 7) (m : Nat)
    (d : Level) : s.Takes (edges ++ [(m, d)]) (takeBit d { u with sn := m }) := by
  have hcount : ({ u with sn := m } : State).bitCount.toNat = edges.length := h.count
  constructor
  case count => rw [takeBit_bitCount_toNat _ _ (hcount.trans_le hroom), hcount, List.length_append, List.length_singleton]
  case bits =>
    intro n
    have hbits := takeBit_closedBits d { u with sn := m } n (hcount.trans_le hroom)
    rw [hcount, h.bits m] at hbits
    rw [tiledBits_append, ← hbits, List.length_append, List.length_singleton]
  case value =>
    have hfold := foldBit_lsbFirst (edges.map Prod.snd) d (by simpa using hroom)
    simp only [List.length_append, List.length_map, List.length_singleton] at hfold
    rw [takeBit_eq, List.map_append, List.length_append]
    exact (congrArg (foldBit · d) h.value).trans hfold
  case start =>
    intro _
    rw [takeBit_byteSs, hcount]
    cases edges with
    | nil => rfl
    | cons e rest => exact h.start (by simp)
  case frame =>
    rw [takeBit_eq]
    conv_lhs => rw [h.frame]
    rw [h.frame, List.length_append]
    rfl

/-- BIT_3W with at most eight bits held takes the bit, into an empty byte when the one held is full (R145). -/
theorem execBit3w_eq_takeBit (d : Level) (s : State) (hlegal : s.bitCount.toNat ≤ 8) :
    execBit3w d s = .next (takeBit d (flushIfFull s)) := by
  obtain ⟨t, ht⟩ := execBit3w_completes s hlegal d
  rw [ht, execBit3w_next_eq_takeBit d s t ht]

/-- With room for the bit there is nothing to flush. -/
theorem execBit3w_of_room (d : Level) (s : State) (hroom : s.bitCount.toNat ≤ 7) :
    execBit3w d s = .next (takeBit d s) := by
  have hnotFull : s.bitCount ≠ 8 := fun hfull => by simp [hfull] at hroom
  rw [execBit3w_eq_takeBit d s (by omega), flushIfFull, if_neg hnotFull]

/-- Edges one after another: the later ones go on from where the earlier ones led. -/
theorem edges3w_append {first : List (Nat × Level)} {s u : State} (later : List (Nat × Level)) (h : edges3w first s = .next u) :
    edges3w (first ++ later) s = edges3w later u := by
  induction first generalizing s with
  | nil =>
    obtain rfl : s = u := Host.Outcome.next.inj h
    rfl
  | cons e rest ih =>
    obtain ⟨n, d⟩ := e
    rw [edges3w] at h
    rw [List.cons_append, edges3w]
    split at h
    · exact ih h
    · cases h
    · cases h

/-- As long as the byte has room for them, further edges add to the ones held. -/
theorem edges3w_takes {s u : State} {held : List (Nat × Level)} (edges : List (Nat × Level)) (h : s.Takes held u)
    (hroom : (held ++ edges).length ≤ 8) : ∃ t, edges3w edges u = .next t ∧ s.Takes (held ++ edges) t := by
  induction edges generalizing held u with
  | nil => exact ⟨u, rfl, by rwa [List.append_nil]⟩
  | cons e rest ih =>
    obtain ⟨m, d⟩ := e
    have hheld : held.length ≤ 7 := by
      simp only [List.length_append, List.length_cons] at hroom
      omega
    have hedge : execBit3w d { u with sn := m } = .next (takeBit d { u with sn := m }) :=
      execBit3w_of_room d _ (h.count.trans_le hheld)
    rw [List.append_cons] at hroom ⊢
    rw [edges3w, hedge]
    exact ih (h.snoc hheld m d) hroom

/-! The bytes of a session. -/

/-- The state after a flush that leaves the accumulator empty at sample `n`: what a session has counted and reported up to there. -/
def State.reported (s : State) (bytes edges ss n : Nat) (rs : List Record) : State :=
  { s with
    bitCount := 0
    value := 0
    bits := Vector.replicate 9 BitRec.empty
    byteCount := bytes
    byteSs := ss
    pduBitCount := edges
    sn := n
    waiting := s.waiting ++ rs }

/-- A session reported in two parts. -/
theorem reported_reported (s : State) (bytes edges ss n bytes' edges' ss' n' : Nat) (rs rs' : List Record) :
    (s.reported bytes edges ss n rs).reported bytes' edges' ss' n' rs' = s.reported bytes' edges' ss' n' (rs ++ rs') := by
  simp only [State.reported, List.append_assoc]

/-- The flush of the edges of one byte reports their group (R162). -/
theorem State.Takes.flush_eq {s u : State} {edges : List (Nat × Level)} (h : s.Takes edges u) (hsome : 1 ≤ edges.length)
    (hroom : edges.length ≤ 8) (n : Nat) :
    flush { u with sn := n } =
      s.reported (min (s.byteCount + 1) (2 ^ s.par.wBc - 1)) (s.pduBitCount + edges.length) (edges.headD (0, false)).1 n
        (byteGroup s.byteCount edges n) := by
  have hcount : ({ u with sn := n } : State).bitCount.toNat = edges.length := h.count
  have hne : edges ≠ [] := List.ne_nil_of_length_pos hsome
  have hrecord : ({ u with sn := n } : State).byteRecordOf (tiledBits edges n) u.byteSs u.value =
      { kind := if s.byteCount = 0 then .command else .data
        ss := (edges.headD (0, false)).1
        es := n
        val := BitVec.ofNat 8 (lsbFirst (edges.map Prod.snd) * 2 ^ (8 - edges.length))
        nbits := BitVec.ofNat 4 edges.length
        blist := bitListOf (tiledBits edges n) } := by
    rw [State.byteRecordOf, h.value, h.start hne, tiledBits_length, h.frame]
  rw [flush_eq_closedBits { u with sn := n } (hcount.symm ▸ hsome) (hcount.symm ▸ hroom), hcount, h.bits n, hrecord,
    h.frame, List.append_assoc, h.start hne]
  rfl

/-- The first edge after a full byte flushes it, and is then taken as into an empty accumulator (R145, R146). -/
theorem edges3w_of_full (m : Nat) (d : Level) (rest : List (Nat × Level)) (u : State) (hfull : u.bitCount = 8) :
    edges3w ((m, d) :: rest) u = edges3w ((m, d) :: rest) (flush { u with sn := m }) := by
  have hflush : flushIfFull { u with sn := m } = flush { u with sn := m } := if_pos hfull
  have hempty : (flush { u with sn := m }).bitCount = 0 := by
    rw [flush_of_pos _ (by simp [hfull])]
  have hsame : ({ flush { u with sn := m } with sn := m } : State) = flush { u with sn := m } := by
    rw [flush_of_pos _ (by simp [hfull])]
  rw [edges3w, edges3w, hsame, execBit3w_eq_takeBit d { u with sn := m } (by simp [hfull]), hflush,
    execBit3w_of_room d _ (by simp [hempty])]

/-- After every full group there is a next edge: the first one of the next group. -/
theorem exists_first_edge {full : List (List (Nat × Level))} {final : List (Nat × Level)} (hfull : ∀ g ∈ full, g.length = 8)
    (hsome : 1 ≤ final.length) : ∃ m d more later, full ++ [final] = ((m, d) :: more) :: later := by
  have hne : ∀ g ∈ full ++ [final], g ≠ [] := by
    intro g hg
    refine List.ne_nil_of_length_pos ?_
    rcases List.mem_append.mp hg with hg | hg
    · exact (hfull g hg).symm ▸ Nat.succ_pos 7
    · exact List.mem_singleton.mp hg ▸ hsome
  cases hgroups : full ++ [final] with
  | nil => simp at hgroups
  | cons g later =>
    obtain ⟨⟨m, d⟩, more, rfl⟩ := List.exists_cons_of_ne_nil (hne g (by simp [hgroups]))
    exact ⟨m, d, more, later, rfl⟩

/-- A 3-wire session from an empty accumulator up to its stop: every full byte is flushed by the first edge of the next one, and
what is held at the end is the last byte, which a flush then reports (R145, R146, R162). -/
theorem edges3w_session (full : List (List (Nat × Level))) (final : List (Nat × Level)) (hfull : ∀ g ∈ full, g.length = 8)
    (hsome : 1 ≤ final.length) (hroom : final.length ≤ 8) (s : State) (hcount : s.bitCount = 0) (hvalue : s.value = 0) :
    ∃ u, edges3w (full.flatten ++ final) s = .next u ∧ u.variant = s.variant ∧ u.bitCount.toNat ≤ 8 ∧
      ∀ n, flush { u with sn := n } =
        s.reported (min (s.byteCount + full.length + 1) (2 ^ s.par.wBc - 1)) (s.pduBitCount + 8 * full.length + final.length)
          (final.headD (0, false)).1 n (sessionRecords (2 ^ s.par.wBc - 1) s.byteCount (full ++ [final]) n) := by
  induction full generalizing s with
  | nil =>
    obtain ⟨u, hu, htakes⟩ := edges3w_takes final (.nil s hcount hvalue) hroom
    exact ⟨u, hu, by rw [htakes.frame], htakes.count.trans_le hroom, htakes.flush_eq hsome hroom⟩
  | cons g rest ih =>
    have hg : g.length = 8 := hfull g List.mem_cons_self
    obtain ⟨v, hv, htakes⟩ := edges3w_takes g (.nil s hcount hvalue) hg.le
    have hrest : ∀ h ∈ rest, h.length = 8 := fun h hh => hfull h (List.mem_cons_of_mem g hh)
    obtain ⟨m, d, more, later, hnext⟩ := exists_first_edge hrest hsome
    have hedges : rest.flatten ++ final = (m, d) :: (more ++ later.flatten) := by
      simpa using congrArg List.flatten hnext
    have hflush := htakes.flush_eq (by simp [hg]) hg.le m
    obtain ⟨u, hu, hvariant, hlegal, hreport⟩ := ih hrest
      (flush { v with sn := m }) (by rw [hflush]; rfl) (by rw [hflush]; rfl)
    refine ⟨u, ?_, ?_, hlegal, fun n => ?_⟩
    · rw [List.flatten_cons, List.append_assoc, edges3w_append _ hv, hedges,
        edges3w_of_full m d _ v (BitVec.eq_of_toNat_eq (htakes.count.trans hg)), ← hedges, hu]
    · rw [hvariant, hflush]
      rfl
    · have hbytes : min (min (s.byteCount + 1) (2 ^ s.par.wBc - 1) + rest.length + 1) (2 ^ s.par.wBc - 1) =
          min (s.byteCount + (g :: rest).length + 1) (2 ^ s.par.wBc - 1) := by
        rw [List.length_cons]
        omega
      have hedgeCount : s.pduBitCount + g.length + 8 * rest.length + final.length =
          s.pduBitCount + 8 * (g :: rest).length + final.length := by
        rw [List.length_cons]
        omega
      have hrecords : byteGroup s.byteCount g m ++
            sessionRecords (2 ^ s.par.wBc - 1) (min (s.byteCount + 1) (2 ^ s.par.wBc - 1)) (rest ++ [final]) n =
          sessionRecords (2 ^ s.par.wBc - 1) s.byteCount (g :: rest ++ [final]) n := by
        rw [List.cons_append, hnext]
        rfl
      rw [hreport n, hflush, reported_reported, ← hbytes, ← hedgeCount, ← hrecords]
      rfl

/-! The stop of a session. -/

/-- The end of a session after its last flush: the bitrate of its window, then STOP (R108, R180). -/
theorem finishStop_reported (s : State) (bytes edges ss n : Nat) (rs : List Record) :
    finishStop (s.reported bytes edges ss n rs) =
      { s with
        state := .findStart
        bitCount := 0
        value := 0
        bits := Vector.replicate 9 BitRec.empty
        byteCount := bytes
        byteSs := ss
        pduBitCount := edges
        sn := n
        waiting := s.waiting ++ rs ++ ({ s with sn := n, byteSs := ss, pduBitCount := edges } : State).bitrateRecords ++
          [{ kind := .stop, ss := n, es := n }] } :=
  finishStop_eq_bitrateRecords _

/-- A flush moves nothing that the bitrate is computed from. -/
theorem flush_bitrateRecords (s : State) : (flush s).bitrateRecords = s.bitrateRecords := by
  by_cases hzero : s.bitCount = 0
  · rw [flush_of_zero s hzero]
  · rw [flush_of_pos s hzero]
    rfl

/-- Settles O56: the stop row flushes the last byte of the session and ends it. -/
theorem threeWireSessionReportsEveryBit : Obligations.ThreeWireSessionReportsEveryBit := by
  intro s full final n V P ps pd pc stb d c hfull hsome hroom hv hcount hvalue
  obtain ⟨u, hu, hvariant, hlegal, hreport⟩ := edges3w_session full final hfull hsome hroom s hcount hvalue
  refine ⟨u, hu, fun i hi => ?_⟩
  rw [exec_stopRow i V P ps pd pc stb d c _ hi, stopHandler_of_threeWire { u with sn := n } (hvariant.trans hv) hlegal, hreport n,
    finishStop_reported]

/-- Settles O42: a session of one byte, whose bitrate is the same before and after the flush. -/
theorem stopFlushesThreeWireBits : Obligations.StopFlushesThreeWireBits := by
  intro s edges n V pd pc d c hsome hroom hv hcount hvalue
  obtain ⟨u, hu, htakes⟩ := edges3w_takes edges (.nil s hcount hvalue) hroom
  have hvariant : u.variant = s.variant := by rw [htakes.frame]
  have hlegal : u.bitCount.toNat ≤ 8 := htakes.count.trans_le hroom
  have hstop : exec (.stopStb V pd pc d c) { u with sn := n } = .next (finishStop (flush { u with sn := n })) :=
    stopHandler_of_threeWire { u with sn := n } (hvariant.trans hv) hlegal
  refine ⟨u, hu, ?_⟩
  rw [hstop, ← flush_bitrateRecords { u with sn := n }, htakes.flush_eq hsome hroom n, finishStop_reported, byteGroup,
    ← List.append_assoc s.waiting]
  rfl

end Sys2Proof.Machine
end

section
/-! SUPPORT. The bit accumulator: the fold from any starting value, the row of a 3-wire bit written out, and the nine clock edges of a byte in either variant. -/

namespace Sys2Proof.Machine

/-! The fold. -/

/-- The fold, with the new bit written as a constant (R142). -/
theorem foldBit_eq (value : Byte) (d : Level) : foldBit value d = value >>> 1 ||| (if d then 0x80 else 0) := by
  cases d <;> rfl

/-- The starting value goes one place down with every fold, below the bits folded in (R142). -/
theorem foldl_foldBit_eq_or (value : Byte) (bs : List Level) :
    bs.foldl foldBit value = bs.foldl foldBit 0 ||| value >>> bs.length := by
  induction bs generalizing value with
  | nil => simp
  | cons d rest ih =>
    have hfold : foldBit value d = foldBit 0 d ||| value >>> 1 := by
      simp [foldBit_eq, BitVec.or_comm]
    rw [List.foldl_cons, List.foldl_cons, ih (foldBit value d), ih (foldBit 0 d), hfold, BitVec.ushiftRight_or_distrib,
      ← BitVec.shiftRight_add, List.length_cons, Nat.add_comm 1, BitVec.or_assoc]

/-- From an empty shift register, up to eight bits stand at its high end (R63, R142). -/
theorem foldl_foldBit_zero (bs : List Level) (hroom : bs.length ≤ 8) :
    bs.foldl foldBit 0 = BitVec.ofNat 8 (lsbFirst bs * 2 ^ (8 - bs.length)) := by
  induction bs using List.reverseRecOn with
  | nil => rfl
  | append_singleton bs d ih =>
    have hlt : bs.length ≤ 7 := Nat.le_of_lt_succ (by simpa using hroom)
    rw [← foldBit_lsbFirst bs d hlt, ← ih (by omega), List.foldl_append, List.foldl_cons, List.foldl_nil]

/-- Settles O35: after eight folds nothing is left of the starting value. -/
theorem eightFoldsAreLsbFirst : Obligations.EightFoldsAreLsbFirst := by
  refine ⟨foldBit_eq, fun v bs hlen => ?_⟩
  have hgone : v >>> 8 = 0#8 := BitVec.ushiftRight_eq_zero le_rfl
  rw [foldl_foldBit_eq_or, foldl_foldBit_zero bs hlen.le, hlen, hgone, BitVec.or_zero, Nat.sub_self, pow_zero, Nat.mul_one]

/-! The row of a 3-wire bit. -/

theorem exec_bit3w (P ps pd stb d : Bool) (s : State) : exec (.bit3w P ps pd stb d) s = execBit3w d s := rfl

/-- The first bit of a byte opens its entry and the byte's span (R141). -/
theorem takeBit_of_empty (d : Level) (s : State) (hempty : s.bitCount = 0) :
    takeBit d s =
      { s with
        pduBitCount := s.pduBitCount + 1
        byteSs := s.sn
        bits := s.bits.setIfInBounds 0 { v := d, ss := s.sn, es := s.sn }
        bitCount := 1
        value := s.value >>> 1 ||| (if d then 0x80 else 0) } := by
  rw [takeBit, closePrev_of_zero s.sn (countBit s) hempty, ← foldBit_eq]
  simp [fold, append, countBit, hempty]

/-- A later bit of a byte closes the entry before its own (R141). -/
theorem takeBit_of_held (d : Level) (s : State) (hheld : 1 ≤ s.bitCount.toNat) :
    takeBit d s =
      { s with
        pduBitCount := s.pduBitCount + 1
        bits := (s.bits.setIfInBounds (s.bitCount.toNat - 1) { s.bitAt (s.bitCount.toNat - 1) with es := s.sn }).setIfInBounds
          s.bitCount.toNat { v := d, ss := s.sn, es := s.sn }
        bitCount := BitVec.ofNat 4 (s.bitCount.toNat + 1)
        value := s.value >>> 1 ||| (if d then 0x80 else 0) } := by
  have hne : s.bitCount ≠ 0#4 := fun hzero => by simp [hzero] at hheld
  have hcount : s.bitCount + 1 = BitVec.ofNat 4 (s.bitCount.toNat + 1) := by simp [BitVec.ofNat_add]
  rw [takeBit, closePrev_of_pos s.sn (countBit s) hheld, ← foldBit_eq, ← hcount]
  simp [fold, append, closeEntry, countBit, State.bitAt, hne]

/-- Settles O31: the row takes the bit; of a full byte it takes it after the flush, into an empty accumulator. -/
theorem threeWireBitRow : Obligations.ThreeWireBitRow := by
  rintro s P ps pd stb d n rfl
  rw [exec_bit3w]
  refine ⟨fun hzero => ?_, fun hheld hroom => ?_, fun hfull => ?_⟩
  · rw [execBit3w_of_room d s (by omega), takeBit_of_empty d s (BitVec.eq_of_toNat_eq hzero)]
  · rw [execBit3w_of_room d s hroom, takeBit_of_held d s hheld]
  · have hflush : flushIfFull s = flush s := if_pos (BitVec.eq_of_toNat_eq hfull)
    have hflushed := flush_eq_closedBits s (by omega) hfull.le
    rw [execBit3w_eq_takeBit d s hfull.le, hflush, takeBit_of_empty d _ (by rw [hflushed]), hflushed, hfull]
    simp

/-! The row of a 2-wire bit. -/

/-- The bit that CLOSE_PREV closes is the newest one held. -/
theorem closedBits_getLast? (s : State) (k : Nat) :
    (s.closedBits (k + 1)).getLast? = some { s.bitAt k with es := s.sn } := by
  simp [State.closedBits, List.range_succ]

/-- The first part of BIT_2W closes the newest bit, if there is one, and reports it (R143). -/
theorem closeAndReport_eq (s : State) (hlegal : s.bitCount.toNat ≤ 8) :
    closeAndReport s =
      emitAll ((s.closedBits s.bitCount.toNat).getLast?.toList.map bitRecord) (closePrev s.sn s) := by
  unfold closeAndReport
  split
  · next hpos =>
    obtain ⟨k, hk⟩ := Nat.exists_eq_add_of_le' hpos
    have hentry : (closeEntry k s.sn s).bitAt k = { s.bitAt k with es := s.sn } := by
      rw [closeEntry_bitAt, if_pos ⟨rfl, by omega⟩]
    simp only [closePrev_of_pos s.sn s hpos, hk, closedBits_getLast?, Nat.add_sub_cancel, hentry]
    rfl
  · next hnone =>
    rw [closePrev, if_neg hnone, Nat.eq_zero_of_not_pos hnone]
    simp [State.closedBits, emitAll]

/-- BIT_2W with room for the bit takes it, and reports the one that it closes (R143). -/
theorem execBit2w_of_room (d : Level) (s : State) (hroom : s.bitCount.toNat ≤ 7) :
    execBit2w d s = .next (emitAll ((s.closedBits s.bitCount.toNat).getLast?.toList.map bitRecord) (takeBit d s)) := by
  have hcount : (takeBit d s).bitCount.toNat ≤ 8 := by
    rw [takeBit_bitCount_toNat d s hroom]
    omega
  have hlegal : (countBit s).bitCount.toNat ≤ 8 := hroom.trans (by omega)
  rw [execBit2w, if_pos (by omega), closeAndReport_eq (countBit s) hlegal]
  exact congrArg Host.Outcome.next (if_pos hcount)

/-- The completed byte is the first eight entries, whatever bit the ninth edge has taken after them (R144, R163). -/
theorem byteComplete2w_append (d : Level) (n : Nat) (s : State) (hfull : s.bitCount = 8) :
    byteComplete2w (append d n s) = byteComplete2w s := by
  have hentries : ∀ i < 8, (append d n s).bitAt i = s.bitAt i := fun i hi => by
    rw [append_bitAt, hfull, if_neg (fun h => hi.ne h.1.symm)]
  have hspan : append d n s = { s with bitCount := 9, bits := (append d n s).bits } := by
    simp [append, hfull]
  rw [hspan]
  exact byteComplete2w_of_same_entries s 9 _ s.pduBitCount hentries

/-- BYTE_COMPLETE_2W on a full byte whose last bit has just been closed (R163). -/
theorem byteComplete2w_of_closed (s : State) (rs : List Record) (hfull : s.bitCount = 8) :
    byteComplete2w (countBit (emitAll rs (closePrev s.sn s))) =
      { s with
        pduBitCount := s.pduBitCount + 1
        bits := Vector.replicate 9 BitRec.empty
        bitCount := 0
        value := 0
        byteCount := min (s.byteCount + 1) (2 ^ s.par.wBc - 1)
        ackSs := s.sn
        waiting := s.waiting ++ rs ++ [s.byteRecordOf (s.closedBits 8) s.byteSs s.value]
        state := .findAck } := by
  have hcount : s.bitCount.toNat = 8 := by rw [hfull]; rfl
  have hbits := closePrev_bitAt_eq_closedBits s (by omega) (by omega)
  have hrecord : byteRecord 8 (closePrev s.sn s) = s.byteRecordOf (s.closedBits 8) s.byteSs s.value := by
    rw [byteRecord_eq_byteRecordOf, ← hcount, hbits, closePrev_frame]
    rfl
  have hend : ((closePrev s.sn s).bitAt 7).es = s.sn := by
    rw [closePrev_of_pos s.sn s (by omega), closeEntry_bitAt, hcount, if_pos (by omega)]
  have hcomplete : byteComplete2w (countBit (emitAll rs (closePrev s.sn s))) =
      { byteComplete2w (closePrev s.sn s) with
        pduBitCount := s.pduBitCount + 1
        waiting := s.waiting ++ rs ++ [byteRecord 8 (closePrev s.sn s)] } := by
    rw [closePrev_frame]
    rfl
  rw [hcomplete, hrecord, byteComplete2w_eq, hend, closePrev_frame]
  rfl

/-- BIT_2W on a full byte closes and reports its last bit and completes it; its own level is dropped (R143, R144, R163). -/
theorem execBit2w_of_full (d : Level) (s : State) (hfull : s.bitCount = 8) :
    execBit2w d s = .next
      { s with
        pduBitCount := s.pduBitCount + 1
        bits := Vector.replicate 9 BitRec.empty
        bitCount := 0
        value := 0
        byteCount := min (s.byteCount + 1) (2 ^ s.par.wBc - 1)
        ackSs := s.sn
        waiting := s.waiting ++ (s.closedBits 8).getLast?.toList.map bitRecord ++
          [s.byteRecordOf (s.closedBits 8) s.byteSs s.value]
        state := .findAck } := by
  have hcount : s.bitCount.toNat = 8 := by rw [hfull]; rfl
  have hreport : closeAndReport (countBit s) =
      countBit (emitAll ((s.closedBits 8).getLast?.toList.map bitRecord) (closePrev s.sn s)) := by
    rw [closeAndReport_eq (countBit s) hcount.le, countBit_bitCount, hcount]
    exact congrArg (emitAll _) (closePrev_countBit s.sn s)
  have hclosed : (closeAndReport (countBit s)).bitCount = 8 := by
    rw [hreport, closePrev_frame]
    exact hfull
  have hninth : ¬ (append d s.sn (closeAndReport (countBit s))).bitCount.toNat ≤ 8 := by
    simp [hclosed]
  rw [execBit2w, if_pos (by omega), foldOrComplete, if_neg hninth, byteComplete2w_append d s.sn _ hclosed, hreport,
    byteComplete2w_of_closed s _ hfull]

/-! The edges of one byte, in either variant. -/

/-- The bits that edges have closed so far: all but the newest one, which is still open (R140). -/
def closedByEdges (edges : List (Nat × Level)) : List BitRec := (tiledBits edges 0).dropLast

/-- One more edge closes the newest bit at its own sample. -/
theorem closedByEdges_append (edges : List (Nat × Level)) (m : Nat) (d : Level) :
    closedByEdges (edges ++ [(m, d)]) = tiledBits edges m := by
  rw [closedByEdges, tiledBits_append, List.dropLast_concat]

/-- The newest bit, closed at `n`, completes the bits of the edges. -/
theorem closedByEdges_getLast (edges : List (Nat × Level)) (n : Nat) :
    closedByEdges edges ++ (tiledBits edges n).getLast?.toList = tiledBits edges n := by
  cases edges using List.reverseRecOn with
  | nil => rfl
  | append_singleton edges e =>
    obtain ⟨m, d⟩ := e
    rw [closedByEdges_append, tiledBits_append, List.getLast?_concat]
    rfl

/-- `u`, but with the levels of the edges folded into the value of `s` and with `rs` put out since `s`: where the edges of a byte
lead from any starting value, when `u` is where they lead from value 0. -/
def State.afterEdges (s u : State) (edges : List (Nat × Level)) (rs : List Record) : State :=
  { u with value := (edges.map Prod.snd).foldl foldBit s.value, waiting := s.waiting ++ rs }

/-- Taking a bit neither reads nor writes the records, and the value goes nowhere but through the fold. -/
theorem takeBit_of_value (d : Level) (s : State) (value : Byte) (records : List Record) :
    takeBit d { s with value := value, waiting := records } =
      { takeBit d s with value := foldBit value d, waiting := records } := by
  have hclose : closePrev s.sn (countBit { s with value := value, waiting := records }) =
      { closePrev s.sn (countBit s) with value := value, waiting := records } := by
    rcases Nat.eq_zero_or_pos s.bitCount.toNat with hzero | hpos
    · have hempty : s.bitCount = 0 := BitVec.eq_of_toNat_eq hzero
      rw [closePrev_of_zero s.sn (countBit s) hempty]
      exact closePrev_of_zero s.sn _ hempty
    · rw [closePrev_of_pos s.sn (countBit s) hpos]
      exact closePrev_of_pos s.sn _ hpos
  rw [takeBit, hclose]
  rfl

/-- One more edge after the others. -/
theorem takeBit_afterEdges (d : Level) (s u : State) (edges : List (Nat × Level)) (rs : List Record) (m : Nat) :
    takeBit d { s.afterEdges u edges rs with sn := m } = s.afterEdges (takeBit d { u with sn := m }) (edges ++ [(m, d)]) rs := by
  have hfold : ((edges ++ [(m, d)]).map Prod.snd).foldl foldBit s.value =
      foldBit ((edges.map Prod.snd).foldl foldBit s.value) d := by
    rw [List.map_append, List.foldl_append]
    rfl
  rw [State.afterEdges, State.afterEdges, hfold]
  exact takeBit_of_value d { u with sn := m } _ _

/-- Records put out after the edges come after those put out on the way. -/
theorem emitAll_afterEdges (s u : State) (edges : List (Nat × Level)) (rs more : List Record) :
    emitAll more (s.afterEdges u edges rs) = s.afterEdges u edges (rs ++ more) := by
  simp only [emitAll, State.afterEdges, List.append_assoc]

/-- The last of the listed edges goes on from where the earlier ones led. -/
theorem edges3w_concat {edges : List (Nat × Level)} {s u : State} (n : Nat) (d : Level) (h : edges3w edges s = .next u) :
    edges3w (edges ++ [(n, d)]) s = execBit3w d { u with sn := n } := by
  rw [edges3w_append _ h, edges3w]
  cases execBit3w d { u with sn := n } <;> rfl

/-- Edges of one byte of a 3-wire session put nothing out (R145). -/
theorem edges3w_afterEdges (s : State) (edges : List (Nat × Level)) (hempty : s.bitCount = 0) (hroom : edges.length ≤ 8) :
    ∃ u, State.Takes { s with value := 0 } edges u ∧ edges3w edges s = .next (s.afterEdges u edges []) := by
  induction edges using List.reverseRecOn with
  | nil => exact ⟨_, .nil _ hempty rfl, by simp [edges3w, State.afterEdges]⟩
  | append_singleton edges e ih =>
    obtain ⟨m, d⟩ := e
    rw [List.length_append, List.length_singleton] at hroom
    obtain ⟨u, hu, hedges⟩ := ih (by omega)
    have hedge := execBit3w_of_room d { s.afterEdges u edges [] with sn := m } (hu.count.trans_le (by omega))
    refine ⟨_, hu.snoc (by omega) m d, ?_⟩
    rw [edges3w_concat m d hedges, hedge, takeBit_afterEdges]

/-- The last of the listed edges goes on from where the earlier ones led. -/
theorem edges2w_concat {edges : List (Nat × Level)} {s u : State} (n : Nat) (d : Level) (h : edges2w edges s = .next u) :
    edges2w (edges ++ [(n, d)]) s = execBit2w d { u with sn := n } := by
  induction edges generalizing s with
  | nil =>
    obtain rfl : s = u := Host.Outcome.next.inj h
    rw [List.nil_append, edges2w]
    cases execBit2w d { s with sn := n } <;> rfl
  | cons e rest ih =>
    obtain ⟨m, c⟩ := e
    rw [edges2w] at h
    rw [List.cons_append, edges2w]
    split at h
    · exact ih h
    · cases h
    · cases h

/-- Edges of one byte of a 2-wire session report every bit that they close (R143). -/
theorem edges2w_afterEdges (s : State) (edges : List (Nat × Level)) (hempty : s.bitCount = 0) (hroom : edges.length ≤ 8) :
    ∃ u, State.Takes { s with value := 0 } edges u ∧
      edges2w edges s = .next (s.afterEdges u edges ((closedByEdges edges).map bitRecord)) := by
  induction edges using List.reverseRecOn with
  | nil => exact ⟨_, .nil _ hempty rfl, by simp [edges2w, State.afterEdges, closedByEdges, tiledBits]⟩
  | append_singleton edges e ih =>
    obtain ⟨m, d⟩ := e
    rw [List.length_append, List.length_singleton] at hroom
    obtain ⟨u, hu, hedges⟩ := ih (by omega)
    have hcount : ({ s.afterEdges u edges ((closedByEdges edges).map bitRecord) with sn := m } : State).bitCount.toNat =
        edges.length := hu.count
    have hbits : ({ s.afterEdges u edges ((closedByEdges edges).map bitRecord) with sn := m } : State).closedBits edges.length =
        tiledBits edges m := hu.bits m
    have hedge := execBit2w_of_room d _ (hcount.trans_le (by omega))
    have hclosed : (closedByEdges (edges ++ [(m, d)])).map bitRecord =
        (closedByEdges edges).map bitRecord ++ (tiledBits edges m).getLast?.toList.map bitRecord := by
      rw [closedByEdges_append, ← List.map_append, closedByEdges_getLast]
    rw [hcount, hbits, takeBit_afterEdges, emitAll_afterEdges, ← hclosed] at hedge
    refine ⟨_, hu.snoc (by omega) m d, ?_⟩
    rw [edges2w_concat m d hedges, hedge]

/-- After eight edges nothing is left of the starting value (R142). -/
theorem State.Takes.afterEdges_of_eight {s u : State} {edges : List (Nat × Level)} (h : State.Takes { s with value := 0 } edges u)
    (hlen : edges.length = 8) (rs : List Record) : s.afterEdges u edges rs = emitAll rs u := by
  have hvalue : (edges.map Prod.snd).foldl foldBit s.value = u.value := by
    rw [eightFoldsAreLsbFirst.2 s.value _ (by rw [List.length_map, hlen]), h.value, hlen, Nat.sub_self, pow_zero, Nat.mul_one]
  have hwaiting : u.waiting = s.waiting := by rw [h.frame]
  rw [State.afterEdges, hvalue, ← hwaiting]
  rfl

/-- The bits that eight edges leave, closed at `n`, whatever has been put out before (R140). -/
theorem State.Takes.closedBits_of_eight {s u : State} {edges : List (Nat × Level)} (h : s.Takes edges u)
    (hlen : edges.length = 8) (rs : List Record) (n : Nat) :
    ({ emitAll rs u with sn := n } : State).closedBits 8 = tiledBits edges n :=
  hlen ▸ h.bits n

/-- The record of the byte of eight edges, closed at `n` (R94, R160, R161). -/
theorem State.Takes.byteRecordOf_of_eight {s u : State} {edges : List (Nat × Level)} (h : s.Takes edges u)
    (hlen : edges.length = 8) (rs : List Record) (n : Nat) :
    ({ emitAll rs u with sn := n } : State).byteRecordOf (tiledBits edges n) (emitAll rs u).byteSs (emitAll rs u).value =
      { kind := if s.byteCount = 0 then .command else .data
        ss := (edges.headD (0, false)).1
        es := n
        val := BitVec.ofNat 8 (lsbFirst (edges.map Prod.snd))
        nbits := 8
        blist := bitListOf (tiledBits edges n) } := by
  have hne : edges ≠ [] := List.ne_nil_of_length_pos (by omega)
  rw [State.byteRecordOf, emitAll_byteSs, emitAll_value, h.value, h.start hne, tiledBits_length, h.frame, hlen, Nat.sub_self,
    pow_zero, Nat.mul_one]
  rfl

/-! Nine edges. -/

/-- Settles O40: eight edges fill the byte and report its bits but the last; the ninth reports the last and completes the byte. -/
theorem nineEdgesMakeTwoWireByte : Obligations.NineEdgesMakeTwoWireByte := by
  intro s edges n d hlen hempty
  obtain ⟨u, hu, hedges⟩ := edges2w_afterEdges s edges hempty hlen.le
  have hfull : u.bitCount = 8 := BitVec.eq_of_toNat_eq (hu.count.trans hlen)
  have hne : edges ≠ [] := List.ne_nil_of_length_pos (by omega)
  have hninth := execBit2w_of_full d { emitAll ((closedByEdges edges).map bitRecord) u with sn := n } hfull
  have hrecords : s.waiting ++ (closedByEdges edges).map bitRecord ++ (tiledBits edges n).getLast?.toList.map bitRecord =
      s.waiting ++ (tiledBits edges n).map bitRecord := by
    rw [List.append_assoc, ← List.map_append, closedByEdges_getLast]
  rw [hu.afterEdges_of_eight hlen] at hedges
  rw [hu.closedBits_of_eight hlen, hu.byteRecordOf_of_eight hlen] at hninth
  rw [edges2w_concat n d hedges, hninth, ← hrecords, emitAll, hu.frame, hu.start hne, hlen]

/-- The first bit after a flush, into an empty accumulator (R146). -/
theorem takeBit_reported (s : State) (bytes edges ss n : Nat) (rs : List Record) (d : Level) :
    takeBit d (s.reported bytes edges ss n rs) =
      { s with
        bitCount := 1
        value := if d then 0x80 else 0
        bits := (Vector.replicate 9 BitRec.empty).setIfInBounds 0 { v := d, ss := n, es := n }
        byteCount := bytes
        byteSs := n
        pduBitCount := edges + 1
        sn := n
        waiting := s.waiting ++ rs } := by
  have hvalue : (s.reported bytes edges ss n rs).value >>> 1 ||| (if d then 0x80 else 0) = if d then 0x80 else 0 := by
    simp [State.reported]
  rw [takeBit_of_empty d (s.reported bytes edges ss n rs) rfl, hvalue]
  rfl

/-- Settles O41: eight edges fill the byte; the ninth flushes it and is taken into an empty accumulator. -/
theorem ninthEdgeFlushesThreeWireByte : Obligations.NinthEdgeFlushesThreeWireByte := by
  intro s edges n d hlen hempty
  obtain ⟨u, hu, hedges⟩ := edges3w_afterEdges s edges hempty hlen.le
  have hfull : u.bitCount = 8 := BitVec.eq_of_toNat_eq (hu.count.trans hlen)
  have hflush : flushIfFull { u with sn := n } = flush { u with sn := n } := if_pos hfull
  rw [hu.afterEdges_of_eight hlen, show emitAll [] u = u by simp [emitAll]] at hedges
  rw [edges3w_concat n d hedges, execBit3w_eq_takeBit d { u with sn := n } (hu.count.trans_le hlen.le), hflush,
    hu.flush_eq (by omega) hlen.le n, takeBit_reported, byteGroup, hlen, ← List.append_assoc, Nat.sub_self, pow_zero,
    Nat.mul_one]
  rfl

end Sys2Proof.Machine
end

section
/-! SUPPORT. The rows that close a byte and answer it: BIT_2W at every count a run holds, ACK and NACK, and a whole SAMPLE in FIND_ACK. -/

namespace Sys2Proof.Machine

/-! The row of a 2-wire bit. -/

theorem exec_bit2w (P ps pd stb d : Bool) (s : State) : exec (.bit2w P ps pd stb d) s = execBit2w d s := rfl

/-- The first bit of a byte closes none before it, so BIT_2W reports nothing (R143). -/
theorem execBit2w_of_empty (d : Level) (s : State) (hempty : s.bitCount = 0) : execBit2w d s = .next (takeBit d s) := by
  rw [execBit2w_of_room d s (by simp [hempty]), hempty]
  simp [State.closedBits, emitAll]

/-- A later bit of a byte closes the one before it, which BIT_2W reports (R143). -/
theorem execBit2w_of_held (d : Level) (s : State) {k : Nat} (hheld : s.bitCount.toNat = k + 1) (hroom : k + 1 ≤ 7) :
    execBit2w d s = .next (emit (bitRecord { s.bitAt k with es := s.sn }) (takeBit d s)) := by
  rw [execBit2w_of_room d s (hheld.trans_le hroom), hheld, closedBits_getLast?]
  rfl

/-- Settles O30: the row takes the bit, and reports the one that it closes; at a full byte it completes the byte instead. -/
theorem twoWireBitRow : Obligations.TwoWireBitRow := by
  rintro s P ps pd stb d n rfl
  rw [exec_bit2w]
  refine ⟨fun hzero => ?_, fun hheld hroom => ?_, fun hfull => ?_⟩
  · have hempty : s.bitCount = 0 := BitVec.eq_of_toNat_eq hzero
    rw [execBit2w_of_empty d s hempty, takeBit_of_empty d s hempty]
  · obtain ⟨k, hk⟩ := Nat.exists_eq_add_of_le' hheld
    rw [execBit2w_of_held d s hk (hk ▸ hroom), takeBit_of_held d s hheld, hk]
    rfl
  · rw [execBit2w_of_full d s (BitVec.eq_of_toNat_eq hfull), closedBits_getLast?]
    rfl

/-! The answer. -/

/-- Settles O33: both rows are the answer of their kind. -/
theorem acknowledgeRows : Obligations.AcknowledgeRows := fun _ _ _ _ _ _ => ⟨rfl, rfl⟩

/-- The row of a sample in FIND_ACK, performed: the data level at a clock falling edge is the answer (R164 to R166). -/
theorem performRow_of_findAck (s u : State) (hs : s.state = .findAck) :
    performRow (Sys2Proof.decodeVector s.decodeVector) u = .next
      (if s.clockFalling = true then answer (if s.port.dat then .nack else .ack) u else u) := by
  rw [decodeVector_of_findAck s hs, clockFalls_eq, show s.cur.dat = s.port.dat from rfl]
  cases s.clockFalling with
  | true => cases s.port.dat <;> rfl
  | false => rfl

/-- The clock falls at a sample when it was high in the one before and is low in this one (R83). -/
theorem clockFalling_iff {s : State} {p : Levels} (hp : s.prev = some p) :
    s.clockFalling = true ↔ p.clk = true ∧ s.port.clk = false := by
  simp [State.clockFalling, State.before, State.cur, hp]

/-- Settles O34: around the row, at the next index, only the index and `prev` move. -/
theorem sampleInFindAck : Obligations.SampleInFindAck := by
  intro s p hp hs hlast
  refine (execSample_of_lt s hlast).trans ?_
  rw [performRow_of_findAck s (nextSample s) hs, mapNext_of_next]
  simp only [clockFalling_iff hp]
  split <;> rfl

end Sys2Proof.Machine
end

section
/-! SUPPORT. How bytes are counted: a row puts out at most one byte, of the kind that `byte_count` says, and counts it; a START or a RESET alone sets the count back. -/

namespace Sys2Proof.Machine

/-! What an operation does to the count and to the byte records. -/

/-- What counting bytes reads and writes: the width of `byte_count`, the count, and the byte records waiting. -/
def State.byteLog (s : State) : Params × Nat × List Record := (s.par, s.byteCount, s.waiting.filter Record.isByte)

theorem byteLog_eq_iff {s : State} {p : Params} {n : Nat} {bytes : List Record} :
    s.byteLog = (p, n, bytes) ↔ s.par = p ∧ s.byteCount = n ∧ s.waiting.filter Record.isByte = bytes := by
  simp [State.byteLog]

/-- From `s` to `t` one byte is put out and counted: its kind is the one of the count in `s` (R160, R161). -/
def State.CompletesByte (s t : State) : Prop :=
  ∃ r : Record, r.kind = s.byteKind ∧
    t.byteLog = (s.par, saturate s.par.wBc (s.byteCount + 1), s.waiting.filter Record.isByte ++ [r])

/-- From `s` to `t` no byte is put out and the count stays, or one byte is put out and counted. -/
def State.AtMostOneByte (s t : State) : Prop := t.byteLog = s.byteLog ∨ s.CompletesByte t

theorem State.CompletesByte.after_same {s u t : State} (hsu : u.byteLog = s.byteLog) (h : u.CompletesByte t) :
    s.CompletesByte t := by
  obtain ⟨hpar, hcount, hbytes⟩ := byteLog_eq_iff.mp hsu
  unfold State.CompletesByte State.byteKind at h ⊢
  rwa [hpar, hcount, hbytes] at h

theorem State.AtMostOneByte.after_same {s u t : State} (h : u.AtMostOneByte t) (hsu : u.byteLog = s.byteLog) :
    s.AtMostOneByte t := h.imp (·.trans hsu) (.after_same hsu)

theorem State.AtMostOneByte.then_same {s u t : State} (h : s.AtMostOneByte u) (hut : t.byteLog = u.byteLog) :
    s.AtMostOneByte t := h.imp hut.trans fun ⟨r, hkind, hlog⟩ => ⟨r, hkind, hut.trans hlog⟩

@[simp] theorem isByte_byteRecord (n : Nat) (s : State) : (byteRecord n s).isByte = true := by
  unfold byteRecord State.byteKind
  split <;> rfl

@[simp] theorem isByte_bitRecord (b : BitRec) : (bitRecord b).isByte = false := rfl

section
variable (s : State)

/-- A record that is no byte leaves the count of bytes alone. -/
theorem emit_byteLog {r : Record} (hr : r.isByte = false) : (emit r s).byteLog = s.byteLog := by
  simp [State.byteLog, hr]

theorem closePrev_byteLog (n : Nat) : (closePrev n s).byteLog = s.byteLog := by
  rw [closePrev_frame]
  rfl

theorem timingReport_byteLog : (timingReport s).byteLog = s.byteLog := by
  unfold timingReport
  split
  · rfl
  · exact emit_byteLog s rfl

/-- The end of a session puts out no byte, and the count stays until the next START (R108, R167). -/
theorem finishStop_byteLog : (finishStop s).byteLog = s.byteLog :=
  (emit_byteLog (timingReport s) rfl).trans (timingReport_byteLog s)

theorem closeAndReport_byteLog : (closeAndReport s).byteLog = s.byteLog := by
  unfold closeAndReport
  split
  · dsimp only
    split
    · exact (emit_byteLog _ rfl).trans (closePrev_byteLog s s.sn)
    · exact closePrev_byteLog s s.sn
  · rfl

/-- EMIT_BYTE puts out the byte and counts it (R161). -/
theorem emitByte_completesByte (n : Nat) : s.CompletesByte (emitByte n s) :=
  ⟨byteRecord n s, rfl, by simp [State.byteLog]⟩

theorem flush_atMostOneByte : s.AtMostOneByte (flush s) := by
  unfold flush
  split
  · exact .inl rfl
  · have hclosed : (emitAll ((closePrev s.sn s).validBits.map bitRecord) (closePrev s.sn s)).byteLog = s.byteLog := by
      rw [← closePrev_byteLog s s.sn]
      simp [State.byteLog, List.filter_map, Function.comp_def]
    exact .inr (.after_same hclosed (emitByte_completesByte _ _))

theorem flushIfFull_atMostOneByte : s.AtMostOneByte (flushIfFull s) := by
  unfold flushIfFull
  split
  · exact flush_atMostOneByte s
  · exact .inl rfl

theorem foldOrComplete_atMostOneByte (d : Level) : s.AtMostOneByte (foldOrComplete d s) := by
  unfold foldOrComplete
  split
  · exact .inl rfl
  · exact .inr (emitByte_completesByte s 8)

theorem takeBit_byteLog (d : Level) : (takeBit d s).byteLog = s.byteLog := by
  rw [takeBit_eq]
  rfl

end

section
variable {s t : State}

theorem stopHandler_atMostOneByte (h : stopHandler s = .next t) : s.AtMostOneByte t := by
  rcases stopHandler_next s t h with ⟨-, rfl⟩ | ⟨-, -, rfl⟩
  · exact .inl (finishStop_byteLog s)
  · exact (flush_atMostOneByte s).then_same (finishStop_byteLog _)

theorem execBit2w_atMostOneByte {d : Level} (h : execBit2w d s = .next t) : s.AtMostOneByte t := by
  obtain ⟨-, rfl⟩ := execBit2w_next d s t h
  exact (foldOrComplete_atMostOneByte (append d s.sn (closeAndReport (countBit s))) d).after_same
    (closeAndReport_byteLog (countBit s))

theorem execBit3w_atMostOneByte {d : Level} (h : execBit3w d s = .next t) : s.AtMostOneByte t := by
  rw [execBit3w_next_eq_takeBit d s t h]
  exact (flushIfFull_atMostOneByte s).then_same (takeBit_byteLog _ d)

/-! What a transaction does to them. -/

/-- From `s` to `t` a session starts, and START is the one record put out (R105). -/
def State.StartsSession (s t : State) : Prop :=
  s.state = .findStart ∧ t.state = .findData ∧ t.waiting = s.waiting ++ [{ kind := .start, ss := t.sn, es := t.sn }]

/-- In FIND_START a row does nothing or starts a session; elsewhere it puts out an answer, which is no byte, or at most one byte. -/
theorem performRow_bytes (h : performRow (Sys2Proof.decodeVector s.decodeVector) s = .next t) :
    s.StartsSession t ∨ s.AtMostOneByte t := by
  by_cases hs : s.state = .findStart
  · rcases performRow_next_of_findStart s t hs h with rfl | ⟨v, rfl⟩
    · exact .inr (.inl rfl)
    · exact .inl ⟨hs, rfl, rfl⟩
  · rcases performRow_next_of_session s t hs h with rfl | ⟨k, hk, rfl⟩ | ⟨-, hstop⟩ | ⟨d, hbit⟩ | ⟨d, hbit⟩
    · exact .inr (.inl rfl)
    · have hnone : ({ kind := k, ss := s.ackSs, es := s.sn } : Record).isByte = false := by
        simp only [List.mem_cons, List.not_mem_nil, or_false] at hk
        rcases hk with rfl | rfl <;> rfl
      exact .inr (.inl (emit_byteLog s hnone))
    · exact .inr (stopHandler_atMostOneByte hstop)
    · exact .inr (execBit2w_atMostOneByte hbit)
    · exact .inr (execBit3w_atMostOneByte hbit)

theorem eval_bytes (h : eval s = .next t) : s.StartsSession t ∨ s.AtMostOneByte t := by
  obtain ⟨u, hu, rfl⟩ := eval_next s t h
  exact performRow_bytes (t := u) hu

/-- The two bits of RESET's `in_op` (R89). -/
theorem code_eq_one_of_bits {code : BitVec 2} (hhigh : code.getLsbD 1 = false) (hlow : code.getLsbD 0 = true) : code = 1 := by
  revert code
  decide

/-- A transaction, once transferred, is a RESET, or starts a session, or puts out at most one byte. -/
theorem exec_selected_bytes {a : State} (h : exec a.selected a = .next t) :
    (a.port.op = 1 ∧ t = resetRegisters a) ∨ a.StartsSession t ∨ a.AtMostOneByte t := by
  rcases exec_selected_next a t h with
    ⟨hhigh, hlow, rfl⟩ | ⟨-, -, rfl⟩ | ⟨-, -, -, hsample⟩ | ⟨-, -, -, hstart⟩
  · exact .inl ⟨code_eq_one_of_bits hhigh hlow, rfl⟩
  · exact .inr (.inr (.inl rfl))
  · exact .inr (eval_bytes (s := nextSample a) (execSample_next a t hsample).2)
  · rcases execDecodeStart_next a t hstart with ⟨-, rfl⟩ | ⟨-, rfl⟩ | ⟨-, -, -, heval⟩
    · exact .inr (.inr (.inl rfl))
    · exact .inr (.inr (.inl rfl))
    · exact .inr (eval_bytes (s := firstSample (latchConfig a)) heval)

/-- Everything a step does to the bytes and their count: while a record waits the count stays, and a transaction is a RESET, or starts
a session, or puts out at most one byte. -/
theorem step_bytes (h : step s = .next t) :
    (s.waiting ≠ [] ∧ t.byteCount = s.byteCount) ∨
      (∃ q rest, s.waiting = [] ∧ s.inq = q :: rest ∧ q.op = 1 ∧ t = resetRegisters (accept q rest s)) ∨
      s.StartsSession t ∨ s.AtMostOneByte t := by
  rcases step_next s t h with ⟨hw, rfl⟩ | ⟨-, -, rfl⟩ | ⟨q, rest, hw, hq, hexec⟩
  · exact .inl ⟨hw, by rw [drainCycle_eq]⟩
  · exact .inr (.inr (.inr (.inl rfl)))
  · rcases exec_selected_bytes hexec with ⟨hop, rfl⟩ | hbytes
    · exact .inr (.inl ⟨q, rest, hw, hq, hop, rfl⟩)
    · exact .inr (.inr hbytes)

/-! The count after them. -/

/-- A count that saturates at its width, at least one bit, never counts down to 0 (R25). -/
theorem saturate_succ_ne_zero {n : Nat} (hn : 1 ≤ n) (v : Nat) : saturate n (v + 1) ≠ 0 := by
  have hwide : 2 ≤ 2 ^ n := Nat.le_self_pow (by omega) 2
  unfold saturate
  omega

theorem State.CompletesByte.byteCount_ne_zero (h : s.CompletesByte t) (hwidth : 1 ≤ s.par.wBc) : t.byteCount ≠ 0 := by
  obtain ⟨r, -, hlog⟩ := h
  obtain ⟨-, hcount, -⟩ := byteLog_eq_iff.mp hlog
  rw [hcount]
  exact saturate_succ_ne_zero hwidth s.byteCount

/-- With none waiting before, a byte record waiting afterwards is the one that was completed. -/
theorem State.AtMostOneByte.completed (h : s.AtMostOneByte t) (hw : s.waiting = []) {r : Record} (hr : r ∈ t.waiting)
    (hbyte : r.isByte = true) : r.kind = s.byteKind ∧ s.CompletesByte t := by
  have hmem : r ∈ t.waiting.filter Record.isByte := List.mem_filter.mpr ⟨hr, hbyte⟩
  rcases h with hsame | hcompletes
  · obtain ⟨-, -, hnone⟩ := byteLog_eq_iff.mp hsame
    simp [hnone, hw] at hmem
  · obtain ⟨r', hkind, hlog⟩ := hcompletes
    obtain ⟨-, -, hone⟩ := byteLog_eq_iff.mp hlog
    obtain rfl : r = r' := by simpa [hone, hw] using hmem
    exact ⟨hkind, r, hkind, hlog⟩

end

/-- Settles O39: with none waiting before, neither a RESET nor a START leaves a byte record, so the step has completed a byte. -/
theorem firstByteIsCommand : Obligations.FirstByteIsCommand := by
  intro s t hw h r hr hbyte
  rcases step_bytes h with ⟨hne, -⟩ | ⟨q, rest, -, -, -, rfl⟩ | ⟨-, -, hrecords⟩ | hbytes
  · exact absurd hw hne
  · simp [hw] at hr
  · obtain rfl : r = { kind := .start, ss := t.sn, es := t.sn } := by simpa [hrecords, hw] using hr
    cases hbyte
  · obtain ⟨hkind, hcompletes⟩ := hbytes.completed hw hr hbyte
    exact ⟨hkind, hcompletes.byteCount_ne_zero⟩

/-- Settles O55: the count stays or counts a byte, unless a session starts; the RESET is excluded. -/
theorem byteCountNonzeroUntilStart : Obligations.ByteCountNonzeroUntilStart := by
  intro s t hwidth hcount hop h
  rcases step_bytes h with ⟨-, hsame⟩ | ⟨q, rest, hw, hq, hreset, -⟩ | hstarts | hsame | hcompletes
  · exact .inl (hsame ▸ hcount)
  · exact absurd hreset (hop hw q (by simp [hq]))
  · exact .inr hstarts
  · obtain ⟨-, hsameCount, -⟩ := byteLog_eq_iff.mp hsame
    exact .inl (hsameCount.trans_ne hcount)
  · exact .inl (hcompletes.byteCount_ne_zero hwidth)

end Sys2Proof.Machine
end

section
/-! SUPPORT. The timing reporter: what a stop puts out, when the bitrate is among it, and what the bitrate is. -/

namespace Sys2Proof.Machine

/-! The records of a stop. -/

/-- The rule of a stop row is the stop handler (R106, R107, R111, R112). -/
theorem performRow_of_stop (i : Instr) (h : i.mnemonic ∈ ["STOP_STB", "STOP_DAT", "STOP_STB_FS", "STOP_DAT_FS"]) (s : State) :
    performRow i s = stopHandler s := by
  cases i with
  | stopStb | stopDat | stopStbFs | stopDatFs => rfl
  | _ => simp [Instr.mnemonic] at h

/-- A flush appends records of the data handler's kinds only (R162). -/
theorem flush_waiting (s : State) :
    ∃ rs : List Record, (∀ r ∈ rs, r.kind ∈ Kind.ofData) ∧ (flush s).waiting = s.waiting ++ rs := by
  by_cases hempty : s.bitCount = 0
  · exact ⟨[], by simp, by simp [flush_of_zero s hempty]⟩
  · rw [flush_of_pos s hempty]
    refine ⟨_, List.forall_mem_append.mpr ⟨?_, ?_⟩, List.append_assoc ..⟩
    · simp [bitRecord, Kind.ofData]
    · simpa using byteRecord_kind_mem _ _

/-- A stop appends the records of its flush, the bitrate record, if there is one, and STOP (R108). -/
theorem stopHandler_waiting {s t : State} (h : stopHandler s = .next t) :
    ∃ rs : List Record, (∀ r ∈ rs, r.kind ∈ Kind.ofData) ∧
      t.waiting = s.waiting ++ (rs ++ s.bitrateRecords ++ [{ kind := .stop, ss := s.sn, es := s.sn }]) := by
  rcases stopHandler_next s t h with ⟨-, rfl⟩ | ⟨-, -, rfl⟩
  · exact ⟨[], by simp, by simp [finishStop_eq_bitrateRecords]⟩
  · obtain ⟨rs, hkinds, hflush⟩ := flush_waiting s
    exact ⟨rs, hkinds, by simp [finishStop_eq_bitrateRecords, hflush, flush_bitrateRecords]⟩

/-- There is a bitrate record exactly when the window is not empty, and it is of kind BITRATE (R180). -/
theorem exists_bitrate_mem_bitrateRecords_iff (s : State) :
    (∃ r ∈ s.bitrateRecords, r.kind = .bitrate) ↔ s.elapsed ≠ 0 := by
  by_cases hnone : s.elapsed = 0
  · rw [show s.bitrateRecords = [] from if_pos hnone]
    simp [hnone]
  · rw [show s.bitrateRecords = [_] from if_neg hnone]
    simp [hnone]

/-- A stop reports a bitrate exactly when its window is not empty: neither the flush nor STOP is a BITRATE record (R108, R180). -/
theorem stopHandler_reports_bitrate_iff {s t : State} (h : stopHandler s = .next t) :
    (∃ r ∈ t.waiting.drop s.waiting.length, r.kind = .bitrate) ↔ s.elapsed ≠ 0 := by
  obtain ⟨rs, hdata, hwaiting⟩ := stopHandler_waiting h
  have hflush : ¬ ∃ r ∈ rs, r.kind = .bitrate := by
    rintro ⟨r, hr, hrate⟩
    exact absurd (hrate ▸ hdata r hr) (by decide)
  rw [hwaiting, List.drop_left, ← exists_bitrate_mem_bitrateRecords_iff]
  simp [or_and_right, exists_or, hflush]

/-- At the sample after one at or past the START, the window is empty exactly right after the START (R181). -/
theorem elapsed_nextSample_eq_zero_iff (s : State) (hpast : s.pduSs ≤ s.sn) : (nextSample s).elapsed = 0 ↔ s.sn = s.pduSs := by
  unfold State.elapsed
  simp only [nextSample_sn, nextSample_pduSs]
  omega

/-! The obligations. -/

/-- Settles O38: the patterns select a stop row, which runs the stop handler at the next index. -/
theorem bitrateUnlessStopFollowsStart : Obligations.BitrateUnlessStopFollowsStart := by
  intro s t hsound _ hpattern h
  have hrow : (Sys2Proof.decodeVector s.decodeVector).mnemonic ∈ ["STOP_STB", "STOP_DAT", "STOP_STB_FS", "STOP_DAT_FS"] := by
    rw [tableSelectsFirstPattern s]
    rcases hpattern with hp | hp <;> simp [hp]
  obtain ⟨u, hu, rfl⟩ := eval_next _ t (execSample_next s t h).2
  have hstop : stopHandler (nextSample s) = .next u := (performRow_of_stop _ hrow _).symm.trans hu
  exact (stopHandler_reports_bitrate_iff hstop).trans (elapsed_nextSample_eq_zero_iff s hsound.startPast).not

/-- Settles O37: the bound on the rate of a state that fits. -/
theorem bitrateFitsItsField : Obligations.BitrateFitsItsField := fun _ hfits => bitrate_lt hfits

/-- Settles O36: TIMING_REPORT in its two cases, and the worked example with `k` = 1000. -/
theorem bitrateIsExact : Obligations.BitrateIsExact := by
  refine ⟨fun s _ hnone => timingReport_of_zero s hnone, fun s _ hsome => timingReport_of_pos s hsome, ?_⟩
  intro s hstart hnow hbits hrate
  simp [State.bitrate, State.elapsed, hstart, hnow, hbits, hrate]

end Sys2Proof.Machine
end

section
/-! SUPPORT. Decode start and the halted core: the three ways DECODE_START goes, what the first sample selects under each `INIT_PREV`, and a SAMPLE presented to a halted core. -/

namespace Sys2Proof.Machine

/-! The three ways of DECODE_START, from the ports. -/

/-- The channels are checked first (R201, R202). -/
theorem execDecodeStart_of_missing_channel (s : State) (h : s.port.cfgClk = false ∨ s.port.cfgDat = false) :
    execDecodeStart s = .next (raiseFatal errMissingChannel (latchConfig s)) := if_pos h

/-- With both channels present, a rate of 0 is the error (R203). -/
theorem execDecodeStart_of_zero_rate (s : State) (hclk : s.port.cfgClk = true) (hdat : s.port.cfgDat = true)
    (hrate : s.cfgSamplerate = 0) : execDecodeStart s = .next (raiseFatal errNoSamplerate (latchConfig s)) := by
  have hchannels : ¬ ((latchConfig s).cClk = false ∨ (latchConfig s).cDat = false) := by simp [hclk, hdat]
  exact (if_neg hchannels).trans (if_pos hrate)

/-- With both channels and a rate, the sample is evaluated as sample 0 (R201). -/
theorem execDecodeStart_of_valid (s : State) (hclk : s.port.cfgClk = true) (hdat : s.port.cfgDat = true)
    (hrate : s.cfgSamplerate ≠ 0) : execDecodeStart s = eval (firstSample (latchConfig s)) := by
  have hchannels : ¬ ((latchConfig s).cClk = false ∨ (latchConfig s).cDat = false) := by simp [hclk, hdat]
  exact (if_neg hchannels).trans (if_neg hrate)

/-- A rate that the port's wires carry is latched whole (R10). -/
theorem latchConfig_of_rate_lt (s : State) (h : s.port.cfgRate < 2 ^ s.par.wSr) :
    latchConfig s = { s with started := true, cClk := s.port.cfgClk, cDat := s.port.cfgDat, cStb := s.port.cfgStb,
                             cRate := s.port.cfgRate, cRadix := s.port.cfgRadix } := by
  rw [latchConfig, State.cfgSamplerate, Nat.mod_eq_of_lt h]

/-! The first sample. -/

/-- The first sample is compared with what `INIT_PREV` says (R201). -/
theorem firstSample_before (s : State) : (firstSample s).before = s.initialPrev := rfl

theorem firstSample_cur (s : State) : (firstSample s).cur = s.cur := rfl

/-- Only ALL_HIGH puts a high level before sample 0 that the sample itself does not have, so under the other two `INIT_PREV`
values nothing falls (R201). -/
theorem firstSample_no_falling_edge (s : State) (h : s.par.initPrev ≠ .allHigh) :
    (firstSample s).strobeFalling = false ∧ (firstSample s).dataFalling = false := by
  unfold State.strobeFalling State.dataFalling
  rw [firstSample_before, firstSample_cur, State.initialPrev]
  cases hinit : s.par.initPrev with
  | sameAsSample0 => simp
  | allLow => simp
  | allHigh => exact absurd hinit h

/-- So in FIND_START the first sample then selects NOP_START. -/
theorem firstSample_selects_nopStart (s : State) (h : s.par.initPrev ≠ .allHigh) (hs : s.state = .findStart) :
    (Sys2Proof.decodeVector (firstSample s).decodeVector).mnemonic = "NOP_START" := by
  obtain ⟨hstrobe, hdata⟩ := firstSample_no_falling_edge s h
  rw [tableSelectsFirstPattern, State.patternRow, firstSample_state, hs]
  simp [hstrobe, hdata]

/-- EVAL of a sample that selects a NOP row moves `prev` alone (R88, R100). -/
theorem eval_of_nop (s : State)
    (h : (Sys2Proof.decodeVector s.decodeVector).mnemonic ∈ ["NOP_START", "NOP_DATA", "NOP_ACK", "NOP_STOP"]) :
    eval s = .next (latchPrev s.cur s) := by
  rw [eval, performRow_of_nop _ h, mapNext_of_next]

/-- In FIND_START the first sample completes, whatever `INIT_PREV` is: it does nothing or starts a session, and either keeps the
configuration, the status and the sample index. -/
theorem eval_of_findStart_completes (s : State) (hs : s.state = .findStart) :
    ∃ t, eval s = .next t ∧ t.started = s.started ∧ t.statusErr = s.statusErr ∧ t.sn = s.sn ∧ t.prev = some s.cur := by
  rw [eval, performRow_of_findStart s s hs, mapNext_of_next]
  refine ⟨_, rfl, ?_⟩
  split <;> exact ⟨rfl, rfl, rfl, rfl⟩

/-! The obligations. -/

/-- Settles O22: each check answers as the latched port says, and the state `e` of the third way is that of the first sample, in
which EVAL performs the selected row as `exec` does. -/
theorem decodeStartChecksThenEvaluates : Obligations.DecodeStartChecksThenEvaluates := by
  intro s l hcarried hl
  rw [← latchConfig_of_rate_lt s hcarried] at hl
  subst hl
  refine ⟨execDecodeStart_of_missing_channel s, execDecodeStart_of_zero_rate s, ?_⟩
  intro hclk hdat hsome e he
  have hfirst : e = firstSample (latchConfig s) := he
  subst hfirst
  constructor
  · rw [← performRow_decodeVector]
    exact execDecodeStart_of_valid s hclk hdat hsome
  · intro hinit hs
    exact firstSample_selects_nopStart (latchConfig s) (by simp [hinit]) hs

/-- Settles O23: sample 0 is evaluated in FIND_START, where a row always completes, and is a NOP where nothing falls. -/
theorem decodeStartCompletes : Obligations.DecodeStartCompletes := by
  intro s hs hclk hdat hrate
  have hstart : exec .decodeStart s = eval (firstSample (latchConfig s)) := execDecodeStart_of_valid s hclk hdat hrate
  rw [hstart]
  refine ⟨eval_of_findStart_completes (firstSample (latchConfig s)) hs, fun hinit => ?_⟩
  have hnop := firstSample_selects_nopStart (latchConfig s) hinit hs
  rw [eval_of_nop _ (by simp [hnop]), latchPrev, firstSample, latchConfig, hclk, hdat]
  rfl

/-- Settles O21: with `in_op` 0 a halted core selects SAMPLE_HALTED, whose rule does nothing. -/
theorem haltedCoreIgnoresSamples : Obligations.HaltedCoreIgnoresSamples := by
  refine ⟨fun _ _ => rfl, fun _ _ => rfl, fun s q rest hw hq hop herr => ?_⟩
  have hhalted : (accept q rest s).halted = true := bne_iff_ne.mpr herr
  have hrow : (accept q rest s).selected = .sampleHalted s.started := by
    rw [selected_eq, accept_port, hop, hhalted]
    rfl
  rw [step_of_transfer s q rest hw hq, hrow]
  rfl

end Sys2Proof.Machine
end

section
/-! SUPPORT. The handshake and RESET: which record leaves in a cycle and how the waiting ones drain, the transfer of a transaction, and the registers after RESET. -/

namespace Sys2Proof.Machine

/-! The output handshake. -/

/-- Past the levels listed the host is ready, so only a listed 0 holds a record back (log 2). -/
theorem outReadyNow_eq_false_iff (s : State) : s.outReadyNow = false ↔ s.outReady.head? = some false := by
  unfold State.outReadyNow
  cases s.outReady with
  | nil => simp
  | cons level rest => simp

theorem drainCycle_of_ready (s : State) (r : Record) (rest : List Record) (hw : s.waiting = r :: rest)
    (hready : s.outReadyNow = true) :
    drainCycle s = { s with outReady := s.outReady.tail, sent := s.sent ++ [r], waiting := rest } := by
  rw [drainCycle_eq, if_pos hready, if_pos hready, hw]
  rfl

theorem drainCycle_of_not_ready (s : State) (hready : s.outReadyNow = false) :
    drainCycle s = { s with outReady := s.outReady.tail } := by
  rw [drainCycle, if_neg (by simp [hready])]

theorem steps_succ_of_next {s t : State} (h : step s = .next t) (n : Nat) : steps (n + 1) s = steps n t := by
  rw [steps, h]

/-- Settles O13: with a record waiting a step is a drain cycle, which the level of `out_ready` decides. -/
theorem recordLeavesWhenReady : Obligations.RecordLeavesWhenReady := by
  intro s r rest hw
  rw [step_of_waiting s (by simp [hw])]
  constructor
  · intro hready
    have hnow : s.outReadyNow = true := Bool.of_not_eq_false (mt (outReadyNow_eq_false_iff s).mp hready)
    rw [drainCycle_of_ready s r rest hw hnow]
  · intro hready
    rw [drainCycle_of_not_ready s ((outReadyNow_eq_false_iff s).mpr hready)]

/-- Settles O14, by induction on the waiting records: each step hands over the oldest one, and the host stays ready. -/
theorem waitingRecordsDrainInOrder : Obligations.WaitingRecordsDrainInOrder := by
  intro s hready
  induction hw : s.waiting generalizing s with
  | nil =>
    have hsame : ({ s with waiting := [] } : State) = s := by rw [← hw]
    rw [List.append_nil, hsame]
    rfl
  | cons r rest ih =>
    obtain ⟨hleaves, -⟩ := recordLeavesWhenReady s r rest hw
    have hstep : step s = .next { s with sent := s.sent ++ [r], waiting := rest } := by
      simpa [hready] using hleaves (by simp [hready])
    calc steps (rest.length + 1) s
        = steps rest.length { s with sent := s.sent ++ [r], waiting := rest } := steps_succ_of_next hstep _
      _ = .next { s with waiting := [], sent := (s.sent ++ [r]) ++ rest } := ih _ hready rfl
      _ = .next { s with waiting := [], sent := s.sent ++ r :: rest } := by rw [List.append_cons s.sent r rest]

/-! The transfer of a transaction. -/

/-- Settles O12: it is the idle case of a step. -/
theorem endOfInputChangesNothing : Obligations.EndOfInputChangesNothing := step_of_idle

/-- Settles O8: the state that decodes the control vector is the one the transaction was transferred into. -/
theorem stepRunsDecodedInstruction : Obligations.StepRunsDecodedInstruction := by
  intro s q rest i hw hq hi
  have hrow : (accept q rest s).selected = i := hi
  rw [step_of_transfer s q rest hw hq, hrow]
  rfl

/-! RESET. -/

theorem exec_reset (halted started : Bool) (s : State) : exec (.reset halted started) s = .next (resetRegisters s) := rfl

/-- `in_op` 1 selects RESET whatever the registers hold (R89, R220). -/
theorem selected_of_op_one {s : State} (hop : s.port.op = 1) : s.selected = .reset s.halted s.started := by
  rw [selected_eq, hop]
  rfl

theorem resetRegisters_idempotent (s : State) : resetRegisters (resetRegisters s) = resetRegisters s := rfl

/-- RESET keeps the parameters and the edge of the machine, and of the registers nothing (R221). -/
theorem resetRegisters_eq_of_par_eq {s u : State} (hpar : u.par = s.par) :
    resetRegisters u =
      { resetRegisters s with port := u.port, inq := u.inq, outReady := u.outReady, waiting := u.waiting, sent := u.sent } := by
  rw [resetRegisters, hpar]
  rfl

/-- Settles O18: RESET is one write of every register, and no condition of the core stands before it in the control table. -/
theorem resetWritesEveryRegister : Obligations.ResetWritesEveryRegister := by
  refine ⟨fun _ _ _ => rfl, fun s q rest hw hq hop => ?_, rfl⟩
  have hrow : (accept q rest s).selected = .reset s.halted s.started := selected_of_op_one hop
  rw [step_of_transfer s q rest hw hq, hrow]
  rfl

/-- Settles O19: what RESET writes reads only the parameters, which it keeps. -/
theorem resetForgetsHistory : Obligations.ResetForgetsHistory := by
  intro s u t h k hreset
  obtain rfl : resetRegisters s = t := Host.Outcome.next.inj hreset
  constructor
  · rw [exec_reset, resetRegisters_idempotent]
  · intro hpar
    rw [exec_reset, resetRegisters_eq_of_par_eq hpar]

end Sys2Proof.Machine
end
